-- ==== Sys2Proof/Word.lean ====
section
/-! DEFINITION. The words of the block: bytes of a channel, 16-bit output words, 32-bit command words and 12-bit samples
(00_scope.md R11, R8). -/

namespace Sys2Proof

/-- `u8`: one byte of a channel (R11). -/
abbrev Byte := BitVec 8

/-- `u16`: one SC16 output word (R8, "output word width" 16 bits). -/
abbrev Half := BitVec 16

/-- `u32`: one command or response word, and the width of the wrapping counters (R11, R29, R32, R34). -/
abbrev Word := BitVec 32

/-- One sample component, I or Q: 12 bits (R8, "sample component width"). -/
abbrev Sample := BitVec 12

end Sys2Proof
end

