-- ==== Sys2Proof/Config.lean ====
section
/-! DEFINITION. The implementation parameters of 00_scope.md R8 and the free values of the environment: what the RX and TX
oracles and the time input answer where nothing scripted says so (20_memory.md R55, R57; 42_session_control.md R176). -/

namespace Sys2Proof

/-- The parameters the spec's model takes as arguments (R8). `exec` has no argument for them, so State carries one
`Params`; no operation writes it (R36). The OPEN ones have no value of the spec's: log 2. -/
structure Params where
  /-- `P_CHUNK_SIZE`, the bytes one STREAM_CHUNK asks RX for; at least 1. -/
  chunkSize : Nat
  /-- `P_READ_TIMEOUT` in seconds. R8: "Not read by any rule: the RX oracle abstracts it". -/
  readTimeout : Nat
  /-- `P_TICK_HZ`, time ticks in a second; at least 1. OPEN. -/
  tickHz : Nat
  /-- `P_REPORT_INTERVAL` in ticks; at least 1. -/
  reportInterval : Nat
  /-- `P_RAW_TAP_EN`. OPEN. -/
  rawTapEn : Bool
  /-- `CODE_CFG_GPIO_PIN`. OPEN. -/
  codeCfgGpioPin : Word
  /-- `CODE_CFG_DMA`. OPEN. -/
  codeCfgDma : Word
  /-- `CODE_CFG_ADC`. OPEN. -/
  codeCfgAdc : Word
  /-- `CODE_TRIGGER_ADC`. OPEN. -/
  codeTriggerAdc : Word
  /-- `CODE_READ_ADC`. OPEN. -/
  codeReadAdc : Word
deriving DecidableEq, Repr

/-- The five command codes in the order of 30_encoding.md R83. -/
def Params.codes (p : Params) : List Word :=
  [p.codeCfgGpioPin, p.codeCfgDma, p.codeCfgAdc, p.codeTriggerAdc, p.codeReadAdc]

/-- DESIGN CHOICE (log 2): the parameters of `State.reset`. The reference values of R8; for the OPEN ones the example
assignment of 95_test_vectors.md section 1, which is "not a claim about the device". -/
def Params.atReset : Params where
  chunkSize := 3072
  readTimeout := 2
  tickHz := 1000
  reportInterval := 1000
  rawTapEn := true
  codeCfgGpioPin := 0x00000001
  codeCfgDma := 0x00000002
  codeCfgAdc := 0x00000003
  codeTriggerAdc := 0x00000004
  codeReadAdc := 0x00000005

/-- What the RX oracle answers to one `RxRead(n)` (R55): a failure of the transport, or up to `k` of the bytes at the head
of RX before the bound (`upTo k` with `k < n` is the timeout). -/
inductive RxAnswer where
  | fail
  | upTo (k : Nat)
deriving DecidableEq, Repr, Inhabited

/-- What the transport answers to one `TxWrite` (R57). -/
inductive TxAnswer where
  | fail
  | ok
deriving DecidableEq, Repr, Inhabited

namespace Config

/-- `P_RESP_LEN`, fixed at 8 bytes (R8). -/
def respLen : Nat := 8

/-- `P_WORD_BYTES`, fixed at 4 bytes (R8). -/
def wordBytes : Nat := 4

/-- `P_MAX_ARGS`, fixed at 4 (R8). -/
def maxArgs : Nat := 4

/-- FREE VALUE (log 3): the RX oracle's answer to read number `n` where State scripts none. "The oracle is unconstrained"
(R55). -/
opaque freeRx : Nat → RxAnswer

/-- FREE VALUE (log 3): the bytes that arrive from the device before read number `n` where State scripts no answer. "any
byte values, may be answered at any step" (R55). -/
opaque freeArrival : Nat → List Byte

/-- FREE VALUE (log 4): the transport's answer to write number `n` where State scripts none (R57). -/
opaque freeTx : Nat → TxAnswer

/-- FREE VALUE (log 5): the time input of the streaming engine's own iteration number `n`. "any natural value" (R176). -/
opaque freeNow : Nat → Nat

end Config

end Sys2Proof
end

