-- ==== Sys2Proof/Syntax.lean ====
section
/-! DEFINITION. The operations of the block, one constructor for each row of spec/opcode_table.json (30_encoding.md R92). -/

namespace Sys2Proof

/-- The closed operation set (R6, R92). Operands are typed as the spec types them: "The host interface types every argument
as u32, so an argument of 2^32 or more cannot be expressed" (R88). -/
inductive Instr where
  /-- CFG_GPIO_PIN without a value, the 4-word frame (40_command_channel.md R120, has_value = 0). -/
  | cfgGpioPin (group pin mode : Word)
  /-- CFG_GPIO_PIN with a value, the 5-word frame (R120, has_value = 1). -/
  | cfgGpioPinValue (group pin mode value : Word)
  /-- CFG_DMA (R121). -/
  | cfgDma
  /-- CFG_ADC (R122). -/
  | cfgAdc
  /-- TRIGGER_ADC (R123). -/
  | triggerAdc
  /-- READ_ADC (R124); `now` is the host's time input in ticks. -/
  | readAdc (now : Nat)
  /-- VALIDATE (R118), the response validation taken on its own: its code is LAST_CODE, its input the RX channel. -/
  | validate
  /-- UNPACK (41_stream_decoder.md R140): three bytes, `b0` first in stream order. -/
  | unpack (b0 b1 b2 : Byte)
  /-- PACK16 (R141): two 12-bit values. -/
  | pack16 (i q : Sample)
  /-- STREAM_CHUNK (R145); `now` is the time input at the end of the read. -/
  | streamChunk (now : Nat)
  /-- CANCEL (42_session_control.md R174). -/
  | cancel
  /-- RESET (70_reset_and_hazards.md R220). -/
  | reset
deriving DecidableEq, Repr

end Sys2Proof
end

