-- ==== Sys2Proof/WellFormed.lean ====
section
/-! DEFINITION. What the types leave to check: the bounds and distinctness of the parameters (00_scope.md R8, R9) and the
argument count of a request frame (R8 `P_MAX_ARGS`). -/

namespace Sys2Proof

/-- R9: "The five `CODE_*` parameters are pairwise distinct." -/
def Params.codesDistinct (p : Params) : Bool :=
  decide p.codes.Nodup

/-- The parameters are ones the spec admits: `P_CHUNK_SIZE`, `P_TICK_HZ` and `P_REPORT_INTERVAL` at least 1 (R8), the
codes pairwise distinct (R9). -/
def Params.wf (p : Params) : Bool :=
  decide (1 ≤ p.chunkSize) && decide (1 ≤ p.tickHz) && decide (1 ≤ p.reportInterval) && p.codesDistinct

/-- A request frame carries at most `P_MAX_ARGS` arguments (R8, R61 (a)). -/
def argsWf (args : List Word) : Bool :=
  decide (args.length ≤ Config.maxArgs)

/-- The argument words an operation puts on the wire, absent ones elided (30_encoding.md R82, R83). -/
def Instr.args : Instr → List Word
  | .cfgGpioPin group pin mode => [group, pin, mode]
  | .cfgGpioPinValue group pin mode value => [group, pin, mode, value]
  | .cfgDma => []
  | .cfgAdc => []
  | .triggerAdc => []
  | .readAdc _ => []
  | .validate => []
  | .unpack _ _ _ => []
  | .pack16 _ _ => []
  | .streamChunk _ => []
  | .cancel => []
  | .reset => []

/-- Every operand is typed as the spec types it, so an operation is well-formed when its argument count is. -/
def Instr.wf (i : Instr) : Bool :=
  argsWf i.args

end Sys2Proof
end

