-- ==== Sys2Proof/Machine/Operands.lean ====
section
/-! DEFINITION. The operand and wire forms, as pure functions: byte order (20_memory.md R52, R53), FRAME and PARSE
(30_encoding.md R81, R89), the response words (R85), the triplet decode and its inverse (41_stream_decoder.md R140, R142),
PACK16 (R141) and the decode of a buffer (R143). -/

namespace Sys2Proof.Machine

/-- `BYTES_LE32` (R52): byte 0 holds bits [7:0]. -/
def bytesLE32 (v : Word) : List Byte :=
  [v.extractLsb' 0 8, v.extractLsb' 8 8, v.extractLsb' 16 8, v.extractLsb' 24 8]

/-- `LE32` of four bytes in wire order (R52). -/
def le32 (b0 b1 b2 b3 : Byte) : Word :=
  b0.setWidth 32 ||| (b1.setWidth 32 <<< 8) ||| (b2.setWidth 32 <<< 16) ||| (b3.setWidth 32 <<< 24)

/-- `LE32(b[i..i+4))`. Its callers give it four bytes there; the default of `getD` is never read by them. -/
def le32At (b : List Byte) (i : Nat) : Word :=
  le32 (b.getD i 0) (b.getD (i + 1) 0) (b.getD (i + 2) 0) (b.getD (i + 3) 0)

/-- `BYTES_LE16` (R53). -/
def bytesLE16 (w : Half) : List Byte :=
  [w.extractLsb' 0 8, w.extractLsb' 8 8]

/-- `FRAME(c, args)` (R81): the code first, then the arguments in order, each little-endian. -/
def frame (code : Word) (args : List Word) : List Byte :=
  bytesLE32 code ++ args.flatMap bytesLE32

/-- The little-endian words of a byte sequence whose length is a multiple of 4. -/
def wordsOf : List Byte → Option (List Word)
  | [] => some []
  | b0 :: b1 :: b2 :: b3 :: rest => (wordsOf rest).map (le32 b0 b1 b2 b3 :: ·)
  | _ => none

/-- `PARSE(f)` (R89), the inverse of FRAME; no operation of the block. -/
def parse (f : List Byte) : Option (Word × List Word) :=
  match wordsOf f with
  | some (code :: args) => some (code, args)
  | _ => none

/-- `echoed_code` of a complete response (R85): `LE32(b[0..4))`. -/
def respEcho (b : List Byte) : Word :=
  le32At b 0

/-- `status` of a complete response (R85): `LE32(b[4..8))`. -/
def respStatusWord (b : List Byte) : Word :=
  le32At b 4

/-- `UNPACK(b0, b1, b2)` (R140), exactly the source's algorithm. -/
def unpack (b0 b1 b2 : Byte) : Sample × Sample :=
  ((b0.setWidth 12 <<< 4) ||| (b1.setWidth 12 >>> 4), ((b1 &&& 0x0F).setWidth 12 <<< 8) ||| b2.setWidth 12)

/-- `PACK12(I, Q)` (R142), the inverse of UNPACK; no operation of the block. -/
def pack12 (i q : Sample) : Byte × Byte × Byte :=
  (i.extractLsb' 4 8, ((i.extractLsb' 0 4).setWidth 8 <<< 4) ||| (q.extractLsb' 8 4).setWidth 8, q.extractLsb' 0 8)

/-- `PACK16(I, Q)` (R141): two zero-extended 16-bit words, I first. -/
def pack16 (i q : Sample) : List Byte :=
  bytesLE16 (i.setWidth 16) ++ bytesLE16 (q.setWidth 16)

/-- The pairs of a buffer, in the order of its triplets (R143). -/
def pairsOf : List Byte → List (Sample × Sample)
  | b0 :: b1 :: b2 :: rest => unpack b0 b1 b2 :: pairsOf rest
  | _ => []

/-- The 0, 1 or 2 trailing bytes of a buffer which complete no triplet: `rest` of `DECODE` (R143). -/
def restOf : List Byte → List Byte
  | _ :: _ :: _ :: rest => restOf rest
  | short => short

/-- `out` of `DECODE(buf)` (R143): the SC16 bytes of the pairs. -/
def sc16Of (buf : List Byte) : List Byte :=
  (pairsOf buf).flatMap fun pair => pack16 pair.1 pair.2

end Sys2Proof.Machine
end

