-- ==== Sys2Proof/Machine/State.lean ====
section
/-! DEFINITION. The state of the block (10_state.md R22 to R34), of the channels it reaches (20_memory.md R50), the
parameters (00_scope.md R8) and what the outside world does, as plain data; and the state after reset (70_reset_and_hazards.md
R220, R222). -/

namespace Sys2Proof.Machine

/-- `PHASE` (R22). The unused values 5 to 7 are "never written", so they have no constructor. -/
inductive Phase where
  | idle
  | configuring
  | triggered
  | streaming
  | fault
deriving DecidableEq, Repr

/-- The cause codes of 60_exceptions.md R190. The reserved codes (4, 9 to 255) are "never written", so they have no
constructor. -/
inductive Cause where
  | none
  | protoSize
  | protoCode
  | protoStatus
  | framingDiscard
  | transport
  | cmdInStreaming
  | cmdInFault
deriving DecidableEq, Repr

/-- The operation name a REJECTED event carries (R198): one of the commands that GUARD can reject (R111). -/
inductive Operation where
  | cfgGpioPin
  | cfgDma
  | cfgAdc
  | triggerAdc
  | readAdc
deriving DecidableEq, Repr

/-- The direction of a TransportError (R195). -/
inductive Direction where
  | write
  | read
deriving DecidableEq, Repr

/-- One event on DIAG (R198). -/
inductive DiagEvent where
  /-- REPORT(rate), "rate, an unbounded natural". -/
  | report (rate : Nat)
  /-- PROTOCOL_ERROR; `echoed` and `status` are there when all 8 bytes arrived (R193). -/
  | protocolError (sent : Word) (len : Nat) (echoed status : Option Word) (sizeErr codeErr statusErr : Bool)
  /-- TRANSPORT_ERROR(dir). -/
  | transportError (dir : Direction)
  /-- FRAMING_DISCARD(k). -/
  | framingDiscard (k : Nat)
  /-- REJECTED(op, cause). -/
  | rejected (op : Operation) (cause : Cause)
deriving DecidableEq, Repr

/-- What a pure operation taken on its own returned (log 7). The model's own: "return (I, Q)" (R140) and the bytes of PACK16
(R141) go to a caller that is inside STREAM_CHUNK. -/
inductive OpResult where
  | none
  | pair (i q : Sample)
  | bytes (b : List Byte)
deriving DecidableEq, Repr

/-- The machine. Fields up to `lastRate` are the block's; `tx` to `diag` are the channels, "state of the environment" (R41);
the rest is the parameters and the model's own script of the outside world. -/
structure State where
  /-- PHASE (R22). -/
  phase : Phase
  /-- LAST_CODE (R23). -/
  lastCode : Word
  /-- RESP_CODE (R24). -/
  respCode : Word
  /-- RESP_STATUS (R25). -/
  respStatus : Word
  /-- RESP_LEN (R26), 4 bits, 0 to 8. -/
  respLen : BitVec 4
  /-- SIZE_ERR (R27). -/
  sizeErr : Bool
  /-- CODE_ERR (R27). -/
  codeErr : Bool
  /-- STATUS_ERR (R27). -/
  statusErr : Bool
  /-- RESP_VALID (R28). -/
  respValid : Bool
  /-- PROTO_ERR_COUNT (R29). -/
  protoErrCount : Word
  /-- LAST_CAUSE (R30). -/
  lastCause : Cause
  /-- RESIDUE (R31), at most 2 bytes. -/
  residue : List Byte
  /-- PAIR_COUNT (R32). -/
  pairCount : Word
  /-- WINDOW_START (R33), unbounded. -/
  windowStart : Nat
  /-- LAST_RATE (R34). -/
  lastRate : Word
  /-- The TX channel (R50), oldest byte first. -/
  tx : List Byte
  /-- The bytes of the RX channel not yet consumed, the head first (R55, R56). -/
  rx : List Byte
  /-- The OUT channel (R50). -/
  out : List Byte
  /-- The RAW channel (R50). -/
  raw : List Byte
  /-- The DIAG channel (R50). -/
  diag : List DiagEvent
  /-- The parameters (R8, R36; log 2). -/
  params : Params
  /-- The operations still to be taken, first one next (log 1). -/
  agenda : List Instr
  /-- The RX oracle's scripted answers, next one first (log 3). -/
  rxAnswers : List RxAnswer
  /-- How many RX reads there have been: the index of the free answers (log 3). -/
  rxCount : Nat
  /-- The transport's scripted answers to writes, next one first (log 4). -/
  txAnswers : List TxAnswer
  /-- How many TX writes there have been: the index of the free answers (log 4). -/
  txCount : Nat
  /-- How many iterations the engine took with a time input of its own: the index of the free times (log 5). -/
  nowCount : Nat
  /-- What the last UNPACK or PACK16 taken on its own returned (log 7). -/
  result : OpResult
deriving DecidableEq, Repr

/-- Why the machine stops. The block has no trap (R192); its own FAULT is a phase, not a stop. -/
inductive Fault where
  /-- Raised by `step` where the parameters break R8 or R9: "What must hold before the rules of this spec describe the
  block" (R223 (b)). Safe: the model stops where the spec says nothing (log 10). -/
  | badParameters
deriving DecidableEq, Repr

/-- Why an operation is refused. -/
inductive Refusal where
  /-- An operation without a meaning in this model. Raised by `exec` alone; no arm does. Safe. -/
  | notModelled (mnemonic : String)
  /-- Raised by STREAM_CHUNK outside STREAMING: "Enabled: exactly when PHASE = STREAMING" (R145), "not enabled" (R170).
  Safe: there is no such step of the block (log 8). -/
  | streamNotEnabled
deriving DecidableEq, Repr

/-- The machine at power-on: "the block is in the state RESET gives" (R222, R220). The channels are empty, the parameters
are `Params.atReset` and nothing is scripted (logs 2 and 16). -/
def State.reset : State where
  phase := .idle
  lastCode := 0
  respCode := 0
  respStatus := 0
  respLen := 0
  sizeErr := false
  codeErr := false
  statusErr := false
  respValid := false
  protoErrCount := 0
  lastCause := .none
  residue := []
  pairCount := 0
  windowStart := 0
  lastRate := 0
  tx := []
  rx := []
  out := []
  raw := []
  diag := []
  params := Params.atReset
  agenda := []
  rxAnswers := []
  rxCount := 0
  txAnswers := []
  txCount := 0
  nowCount := 0
  result := .none

end Sys2Proof.Machine
end

