-- ==== Sys2Proof/Machine/Flags.lean ====
section
/-! DEFINITION. The codes of the enumerations (10_state.md R22, 60_exceptions.md R190), the error flags of a response
(40_command_channel.md R118), the cause of a ProtocolError (R194) and the derived flags (R31, R35). -/

namespace Sys2Proof.Machine

/-- The number of a phase (R22). -/
def phaseCode : Phase → BitVec 3
  | .idle => 0
  | .configuring => 1
  | .triggered => 2
  | .streaming => 3
  | .fault => 4

/-- The code of a cause, as LAST_CAUSE shows it (R190). -/
def causeCode : Cause → Byte
  | .none => 0
  | .protoSize => 1
  | .protoCode => 2
  | .protoStatus => 3
  | .framingDiscard => 5
  | .transport => 6
  | .cmdInStreaming => 7
  | .cmdInFault => 8

/-- SIZE_ERR: "set when fewer than 8 response bytes arrived" (R27). -/
def sizeErrOf (b : List Byte) : Bool :=
  decide (b.length < Config.respLen)

/-- CODE_ERR: "set when a complete response's echoed code differed" (R27, R118). -/
def codeErrOf (code : Word) (b : List Byte) : Bool :=
  !sizeErrOf b && respEcho b != code

/-- STATUS_ERR: "set when a complete response's status was nonzero" (R27, R118). -/
def statusErrOf (b : List Byte) : Bool :=
  !sizeErrOf b && respStatusWord b != 0

/-- The cause of a ProtocolError: "the first that applies of PROTO_SIZE, PROTO_CODE and PROTO_STATUS" (R194). -/
def protoCause (sizeErr codeErr : Bool) : Cause :=
  if sizeErr then .protoSize else if codeErr then .protoCode else .protoStatus

/-- `RESIDUE_COUNT = len(RESIDUE)` (R31). -/
def residueCount (s : State) : Nat :=
  s.residue.length

/-- `FRAMING_PENDING = (RESIDUE_COUNT != 0)`, derived and not stored (R35). -/
def framingPending (s : State) : Bool :=
  residueCount s != 0

end Sys2Proof.Machine
end

