-- ==== Sys2Proof/Machine/Ops.lean ====
section
/-! DEFINITION. The operations every meaning is written from: the channel primitives (00_scope.md R12, 20_memory.md R55 to
R60), raising each error (60_exceptions.md R193 to R197), the phase guard (40_command_channel.md R111), SEND (R112) and VALIDATE
(R118). Nothing returns from an error: "No error needs a return operation" (R201). -/

namespace Sys2Proof.Machine

/-! ### Channels -/

/-- What the RX oracle answers to the next read: the script's answer, a free value past its end (R55; log 3). -/
def State.nextRx (s : State) : RxAnswer :=
  match s.rxAnswers with
  | a :: _ => a
  | [] => Config.freeRx s.rxCount

/-- The bytes at the head of RX at the next read. Where nothing is scripted, further bytes of the device may have arrived
(R55; log 3). -/
def State.arrived (s : State) : List Byte :=
  match s.rxAnswers with
  | _ :: _ => s.rx
  | [] => s.rx ++ Config.freeArrival s.rxCount

/-- After a read that consumed `k` bytes at the head of RX: the rest stays for the next read (R56). -/
def State.afterRx (s : State) (k : Nat) : State :=
  { s with rx := s.arrived.drop k, rxAnswers := s.rxAnswers.tail, rxCount := s.rxCount + 1 }

/-- What the transport answers to the next write (R57; log 4). -/
def State.nextTx (s : State) : TxAnswer :=
  match s.txAnswers with
  | a :: _ => a
  | [] => Config.freeTx s.txCount

/-- After a write that put the bytes `b` on TX (R57). -/
def State.afterTx (s : State) (b : List Byte) : State :=
  { s with tx := s.tx ++ b, txAnswers := s.txAnswers.tail, txCount := s.txCount + 1 }

/-- What `RxRead` returns (R12). -/
inductive ReadResult where
  | fail
  | bytes (b : List Byte)
deriving DecidableEq, Repr

/-- `RxRead(n)` (R55): `Fail`, or the next bytes at the head of RX, at most `n`, which are consumed. -/
def rxRead (n : Nat) (s : State) : ReadResult × State :=
  match s.nextRx with
  | .fail => (.fail, s.afterRx 0)
  | .upTo k => (.bytes (s.arrived.take (min k n)), s.afterRx (min k n))

/-- `TxWrite(b)` (R57): the whole frame as one write, or `Fail` with the frame not written. True is `Ok`. -/
def txWrite (b : List Byte) (s : State) : Bool × State :=
  match s.nextTx with
  | .fail => (false, s.afterTx [])
  | .ok => (true, s.afterTx b)

/-- `OutWrite(b)` (R58). -/
def outWrite (b : List Byte) (s : State) : State :=
  { s with out := s.out ++ b }

/-- `RawWrite(b)` (R59). -/
def rawWrite (b : List Byte) (s : State) : State :=
  { s with raw := s.raw ++ b }

/-- `DiagEmit(e)` (R60). -/
def diagEmit (e : DiagEvent) (s : State) : State :=
  { s with diag := s.diag ++ [e] }

/-! ### Errors -/

/-- The FRAMING_DISCARD event of a residue about to be dropped at a TransportError or at RESET, if one is held (R195, R196 (b),
R220). -/
def reportDiscard (s : State) : State :=
  if 0 < s.residue.length then diagEmit (.framingDiscard s.residue.length) s else s

/-- `raise TransportError(dir)` (R195). -/
def raiseTransport (dir : Direction) (s : State) : State :=
  diagEmit (.transportError dir)
    { reportDiscard s with residue := [], phase := .fault, lastCause := .transport }

/-- `raise FramingError(DISCARD, k)` at CANCEL (R174, R196 (b)): cause 5 and the event. -/
def raiseFraming (k : Nat) (s : State) : State :=
  diagEmit (.framingDiscard k) { s with lastCause := .framingDiscard }

/-- `raise ProtocolError(code, len, size_err, code_err, status_err)` (R193, R194). -/
def raiseProtocol (code : Word) (len : Nat) (sizeErr codeErr statusErr : Bool) (s : State) : State :=
  diagEmit
    (.protocolError code len (if len = Config.respLen then some s.respCode else none)
      (if len = Config.respLen then some s.respStatus else none) sizeErr codeErr statusErr)
    { s with protoErrCount := s.protoErrCount + 1, lastCause := protoCause sizeErr codeErr }

/-- `reject cause` of the operation `op` (R197). -/
def reject (op : Operation) (cause : Cause) (s : State) : State :=
  diagEmit (.rejected op cause) { s with lastCause := cause }

/-! ### Parts of the control operations -/

/-- GUARD (R111): the cause with which a control operation is rejected in a phase, if it is. -/
def guardCause : Phase → Option Cause
  | .streaming => some .cmdInStreaming
  | .fault => some .cmdInFault
  | .idle => none
  | .configuring => none
  | .triggered => none

/-- SEND(code, args) (R112). False where the write failed: the TransportError is raised and the operation ends. -/
def send (code : Word) (args : List Word) (s : State) : Bool × State :=
  match txWrite (frame code args) s with
  | (false, s') => (false, raiseTransport .write s')
  | (true, s') => (true, { s' with lastCode := code })

/-- The fields VALIDATE writes for a response whose bytes `b` arrived (R118): a short one leaves RESP_CODE and RESP_STATUS. -/
def recordResponse (code : Word) (b : List Byte) (s : State) : State :=
  { s with
    respLen := BitVec.ofNat 4 b.length
    respValid := true
    respCode := if sizeErrOf b then s.respCode else respEcho b
    respStatus := if sizeErrOf b then s.respStatus else respStatusWord b
    sizeErr := sizeErrOf b
    codeErr := codeErrOf code b
    statusErr := statusErrOf b }

/-- The last part of VALIDATE (R118): the ProtocolError, if any flag is set. -/
def reportResponse (code : Word) (len : Nat) (s : State) : State :=
  if s.sizeErr || s.codeErr || s.statusErr then raiseProtocol code len s.sizeErr s.codeErr s.statusErr s else s

/-- VALIDATE(code) (R118). -/
def validate (code : Word) (s : State) : State :=
  match rxRead Config.respLen s with
  | (.fail, s') => raiseTransport .read s'
  | (.bytes b, s') => reportResponse code b.length (recordResponse code b s')

/-- The shape of the four control operations that read a response (R110, R113, R120): GUARD, SEND, the phase, VALIDATE. -/
def command (op : Operation) (code : Word) (args : List Word) (target : Phase) (s : State) : State :=
  match guardCause s.phase with
  | some cause => reject op cause s
  | none =>
    match send code args s with
    | (false, s') => s'
    | (true, s') => validate code { s' with phase := target }

end Sys2Proof.Machine
end

