-- ==== Sys2Proof/Machine/Command.lean ====
section
/-! DEFINITION. The command channel (40_command_channel.md R118, R120 to R124). -/

namespace Sys2Proof.Machine

/-- CFG_GPIO_PIN without a value (R120): a 16-byte frame. -/
def execCfgGpioPin (group pin mode : Word) (s : State) : Host.Outcome State Fault Refusal :=
  .next (command .cfgGpioPin s.params.codeCfgGpioPin [group, pin, mode] .configuring s)

/-- CFG_GPIO_PIN with a value (R120): a 20-byte frame; "A present value of 0 is sent as a 5th word". -/
def execCfgGpioPinValue (group pin mode value : Word) (s : State) : Host.Outcome State Fault Refusal :=
  .next (command .cfgGpioPin s.params.codeCfgGpioPin [group, pin, mode, value] .configuring s)

/-- CFG_DMA (R121). -/
def execCfgDma (s : State) : Host.Outcome State Fault Refusal :=
  .next (command .cfgDma s.params.codeCfgDma [] .configuring s)

/-- CFG_ADC (R122). -/
def execCfgAdc (s : State) : Host.Outcome State Fault Refusal :=
  .next (command .cfgAdc s.params.codeCfgAdc [] .configuring s)

/-- TRIGGER_ADC (R123). -/
def execTriggerAdc (s : State) : Host.Outcome State Fault Refusal :=
  .next (command .triggerAdc s.params.codeTriggerAdc [] .triggered s)

/-- Entry to STREAMING (R124): no residue, no pair counted, the window starting now. -/
def enterStreaming (now : Nat) (s : State) : State :=
  { s with residue := [], pairCount := 0, windowStart := now, phase := .streaming }

/-- READ_ADC (R124): the command that reads no response (R115). -/
def execReadAdc (now : Nat) (s : State) : Host.Outcome State Fault Refusal :=
  .next
    (match guardCause s.phase with
    | some cause => reject .readAdc cause s
    | none =>
      match send s.params.codeReadAdc [] s with
      | (false, s') => s'
      | (true, s') => enterStreaming now s')

/-- VALIDATE taken on its own (R118, "code = LAST_CODE"; log 6). -/
def execValidate (s : State) : Host.Outcome State Fault Refusal :=
  .next (validate s.lastCode s)

end Sys2Proof.Machine
end

