-- ==== Sys2Proof/Machine/Session.lean ====
section
/-! DEFINITION. Session control (42_session_control.md R174) and reset (70_reset_and_hazards.md R220, R221). -/

namespace Sys2Proof.Machine

/-- The FramingError of CANCEL, if a residue is held (R174). -/
def cancelResidue (s : State) : State :=
  if 0 < s.residue.length then raiseFraming s.residue.length s else s

/-- CANCEL (R174): in STREAMING the residue is discarded and PHASE becomes IDLE; elsewhere "no effect". -/
def execCancel (s : State) : Host.Outcome State Fault Refusal :=
  .next (if s.phase = .streaming then { cancelResidue s with residue := [], phase := .idle } else s)

/-- The fields RESET writes (R220). -/
def clearBlock (s : State) : State :=
  { s with
    phase := .idle
    lastCode := 0
    respCode := 0
    respStatus := 0
    respLen := 0
    sizeErr := false
    codeErr := false
    statusErr := false
    respValid := false
    protoErrCount := 0
    lastCause := .none
    residue := []
    pairCount := 0
    windowStart := 0
    lastRate := 0 }

/-- RESET (R220): the FRAMING_DISCARD event of a residue held, then every field of the block. It leaves the environment
alone (R221). -/
def execReset (s : State) : Host.Outcome State Fault Refusal :=
  .next (clearBlock (reportDiscard s))

end Sys2Proof.Machine
end

