-- ==== Sys2Proof/Machine/Stream.lean ====
section
/-! DEFINITION. The streaming decoder (41_stream_decoder.md R140, R141, R145, R146). -/

namespace Sys2Proof.Machine

/-- UNPACK taken on its own (R140; log 7): the pair is what it returns. -/
def execUnpack (b0 b1 b2 : Byte) (s : State) : Host.Outcome State Fault Refusal :=
  .next { s with result := .pair (unpack b0 b1 b2).1 (unpack b0 b1 b2).2 }

/-- PACK16 taken on its own (R141; log 7): the four bytes are what it returns. -/
def execPack16 (i q : Sample) (s : State) : Host.Outcome State Fault Refusal :=
  .next { s with result := .bytes (pack16 i q) }

/-- THROUGHPUT_CHECK(now) (R146), over unbounded integers. -/
def throughputCheck (now : Nat) (s : State) : State :=
  if s.windowStart + s.params.reportInterval ≤ now then
    let rate := s.pairCount.toNat * s.params.tickHz / (now - s.windowStart)
    { diagEmit (.report rate) { s with lastRate := BitVec.ofNat 32 rate } with pairCount := 0, windowStart := now }
  else s

/-- The OutWrite of an iteration: none "when the iteration decoded no pair" (R58). -/
def emitPairs (buf : List Byte) (s : State) : State :=
  if 0 < (pairsOf buf).length then outWrite (sc16Of buf) s else s

/-- The RawWrite of an iteration (R59): the chunk as received, where the tap is on and the chunk is not empty. -/
def tapChunk (chunk : List Byte) (s : State) : State :=
  if s.params.rawTapEn && decide (0 < chunk.length) then rawWrite chunk s else s

/-- What an iteration does with the chunk it read, up to the throughput check (R145). -/
def absorbChunk (chunk : List Byte) (s : State) : State :=
  let buf := s.residue ++ chunk
  let s' := tapChunk chunk (emitPairs buf { s with residue := restOf buf })
  { s' with pairCount := s'.pairCount + BitVec.ofNat 32 (pairsOf buf).length }

/-- One iteration of the read loop (R145). -/
def streamIteration (now : Nat) (s : State) : State :=
  match rxRead s.params.chunkSize s with
  | (.fail, s') => raiseTransport .read s'
  | (.bytes chunk, s') => throughputCheck now (absorbChunk chunk s')

/-- STREAM_CHUNK (R145): "Enabled: exactly when PHASE = STREAMING". -/
def execStreamChunk (now : Nat) (s : State) : Host.Outcome State Fault Refusal :=
  if s.phase = .streaming then .next (streamIteration now s) else .refused .streamNotEnabled

end Sys2Proof.Machine
end

