-- ==== Sys2Proof/Machine/Dispatch.lean ====
section
/-! DEFINITION. The one match from an operation to its meaning, one arm a constructor. -/

namespace Sys2Proof.Machine

def exec (i : Instr) (s : State) : Host.Outcome State Fault Refusal :=
  match i with
  | .cfgGpioPin group pin mode => Sys2Proof.Machine.execCfgGpioPin group pin mode s
  | .cfgGpioPinValue group pin mode value => Sys2Proof.Machine.execCfgGpioPinValue group pin mode value s
  | .cfgDma => Sys2Proof.Machine.execCfgDma s
  | .cfgAdc => Sys2Proof.Machine.execCfgAdc s
  | .triggerAdc => Sys2Proof.Machine.execTriggerAdc s
  | .readAdc now => Sys2Proof.Machine.execReadAdc now s
  | .validate => Sys2Proof.Machine.execValidate s
  | .unpack b0 b1 b2 => Sys2Proof.Machine.execUnpack b0 b1 b2 s
  | .pack16 si sq => Sys2Proof.Machine.execPack16 si sq s
  | .streamChunk now => Sys2Proof.Machine.execStreamChunk now s
  | .cancel => Sys2Proof.Machine.execCancel s
  | .reset => Sys2Proof.Machine.execReset s

end Sys2Proof.Machine
end

