-- ==== Sys2Proof/Decode.lean ====
section
/-! DEFINITION. The encodings of 30_encoding.md R80 to R92 read as operations, total on any bytes and rejecting by name, and
the encoder written from the same tables; then the operation the bits of an opcode-table row stand for. The block itself
decodes no operation (20_memory.md R69): what is read here is what a receiver of the bytes reads. -/

namespace Sys2Proof

/-- The operations that carry no bytes of their own (R92, format HOST; VALIDATE, whose RESP bytes are its input on RX). -/
inductive NamedOp where
  | validate
  | streamChunk
  | cancel
  | reset
deriving DecidableEq, Repr

/-- An operation in one of the formats of R80. The format comes with the bytes: the same four bytes can be a REQ frame or
an SC16 pair, and nothing in them tells which. -/
inductive Encoded where
  /-- REQ: a request frame (R81). -/
  | req (bytes : List Byte)
  /-- RESP: a response frame (R85). -/
  | resp (bytes : List Byte)
  /-- SC12: a packed triplet (R86). -/
  | sc12 (bytes : List Byte)
  /-- SC16: an output pair (R87). -/
  | sc16 (bytes : List Byte)
  /-- No bytes: the operation is named (R92). -/
  | named (op : NamedOp)
deriving DecidableEq, Repr

/-- Why bytes are no operation. -/
inductive DecodeError where
  /-- The length is none of its format (R80). -/
  | badLength
  /-- A REQ whose first word is outside the closed set of codes (R91 (a)). -/
  | unknownCode
  /-- A REQ whose code takes another number of arguments (R83). -/
  | badArgCount
  /-- An SC16 word whose bits [15:12] are not 0 (R91 (d)). -/
  | badSc16
deriving DecidableEq, Repr

/-- The operation of a REQ frame with code `code` and arguments `args` (R83); `now` is the host's time input, which is
not on the wire. -/
def decodeCommand (p : Params) (now : Nat) (code : Word) (args : List Word) : Except DecodeError Instr :=
  if code = p.codeCfgGpioPin then
    match args with
    | [group, pin, mode] => .ok (.cfgGpioPin group pin mode)
    | [group, pin, mode, value] => .ok (.cfgGpioPinValue group pin mode value)
    | _ => .error .badArgCount
  else if code = p.codeCfgDma then
    if args.isEmpty then .ok .cfgDma else .error .badArgCount
  else if code = p.codeCfgAdc then
    if args.isEmpty then .ok .cfgAdc else .error .badArgCount
  else if code = p.codeTriggerAdc then
    if args.isEmpty then .ok .triggerAdc else .error .badArgCount
  else if code = p.codeReadAdc then
    if args.isEmpty then .ok (.readAdc now) else .error .badArgCount
  else .error .unknownCode

/-- The pair of an SC16 sequence (R87): byte 0 is I[7:0], byte 1 is 0000 and I[11:8], then Q in the same way. -/
def decodeSc16 (b0 b1 b2 b3 : Byte) : Except DecodeError Instr :=
  if b1.extractLsb' 4 4 = 0 ∧ b3.extractLsb' 4 4 = 0 then
    .ok (.pack16 (b1.extractLsb' 0 4 ++ b0) (b3.extractLsb' 0 4 ++ b2))
  else .error .badSc16

/-- The operation some bytes of a known format stand for (R80, R92). -/
def decode (p : Params) (now : Nat) : Encoded → Except DecodeError Instr
  | .req bytes =>
    match Machine.parse bytes with
    | some (code, args) => decodeCommand p now code args
    | none => .error .badLength
  | .resp bytes => if bytes.length = Config.respLen then .ok .validate else .error .badLength
  | .sc12 bytes =>
    match bytes with
    | [b0, b1, b2] => .ok (.unpack b0 b1 b2)
    | _ => .error .badLength
  | .sc16 bytes =>
    match bytes with
    | [b0, b1, b2, b3] => decodeSc16 b0 b1 b2 b3
    | _ => .error .badLength
  | .named .validate => .ok .validate
  | .named .streamChunk => .ok (.streamChunk now)
  | .named .cancel => .ok .cancel
  | .named .reset => .ok .reset

/-- The encoding of an operation (R83, R86, R87, R92). -/
def encode (p : Params) : Instr → Encoded
  | .cfgGpioPin group pin mode => .req (Machine.frame p.codeCfgGpioPin [group, pin, mode])
  | .cfgGpioPinValue group pin mode value => .req (Machine.frame p.codeCfgGpioPin [group, pin, mode, value])
  | .cfgDma => .req (Machine.frame p.codeCfgDma [])
  | .cfgAdc => .req (Machine.frame p.codeCfgAdc [])
  | .triggerAdc => .req (Machine.frame p.codeTriggerAdc [])
  | .readAdc _ => .req (Machine.frame p.codeReadAdc [])
  | .validate => .named .validate
  | .unpack b0 b1 b2 => .sc12 [b0, b1, b2]
  | .pack16 i q => .sc16 (Machine.pack16 i q)
  | .streamChunk _ => .named .streamChunk
  | .cancel => .named .cancel
  | .reset => .named .reset

/-- The host's time input which comes beside the encoding of an operation: `now` of READ_ADC and STREAM_CHUNK (R176). -/
def Instr.timeInput : Instr → Nat
  | .readAdc now => now
  | .streamChunk now => now
  | .cfgGpioPin _ _ _ => 0
  | .cfgGpioPinValue _ _ _ _ => 0
  | .cfgDma => 0
  | .cfgAdc => 0
  | .triggerAdc => 0
  | .validate => 0
  | .unpack _ _ _ => 0
  | .pack16 _ _ => 0
  | .cancel => 0
  | .reset => 0

/-- `n` bytes of a number, its least significant byte first. -/
def bytesOfNat : Nat → Nat → List Byte
  | 0, _ => []
  | n + 1, w => BitVec.ofNat 8 w :: bytesOfNat n (w / 256)

/-- How many bytes the REQ frame of a given first word has, when the table gives `given` bytes of it (log 11):
CFG_GPIO_PIN is 16 bytes, or 20 where the table gives more than 16, its missing operand words being zeros; every other
frame is as long as what is given. -/
def reqBytes (p : Params) (given w : Nat) : Nat :=
  if BitVec.ofNat 32 w = p.codeCfgGpioPin then (if given ≤ 16 then 16 else if given ≤ 20 then 20 else given) else given

/-- The four bytes of an SC16 pair from the table's 32-bit number, which is in value order: the I word is bits [31:16],
the Q word bits [15:0] (the note of the PACK16 row). -/
def sc16Bytes (w : Nat) : List Byte :=
  bytesOfNat 2 (w / 65536) ++ bytesOfNat 2 w

/-- The three bytes of a triplet from the table's 24-bit number, `b0` in bits [23:16] (the UNPACK row). -/
def sc12Bytes (w : Nat) : List Byte :=
  [BitVec.ofNat 8 (w / 65536), BitVec.ofNat 8 (w / 256), BitVec.ofNat 8 w]

/-- The encoding that a row of `nbits` bits with bits `w` stands for (log 11): 24 bits are a triplet, 64 bits a response, 32
bits a pair unless they are a command code, everything else a request frame. -/
def encodedOfTable (p : Params) (nbits w : Nat) : Encoded :=
  if nbits = 24 then .sc12 (sc12Bytes w)
  else if nbits = 64 then .resp (bytesOfNat 8 w)
  else if nbits = 32 ∧ BitVec.ofNat 32 w ∉ p.codes then .sc16 (sc16Bytes w)
  else .req (bytesOfNat (reqBytes p (nbits / 8) w) w)

/-- The operation the decoder reads from the bits of an opcode-table row, under given parameters. The time input, which is
in no row's bits, is 0 (log 11). A row of no bits (format HOST) names its operation by no bits, so it has none here. -/
def decodeTable (p : Params) (nbits w : Nat) : Option Instr :=
  if nbits = 0 then none
  else
    match decode p 0 (encodedOfTable p nbits w) with
    | .ok i => some i
    | .error _ => none

/-- `decodeTable` under the parameters of `State.reset`. -/
def decodeTableWord (nbits w : Nat) : Option Instr :=
  decodeTable Params.atReset nbits w

end Sys2Proof
end

