-- ==== Sys2Proof/Machine/Fetch.lean ====
section
/-! DEFINITION. Which operation comes next, and placing one there. The block fetches nothing (20_memory.md R69): the host's
requests and the streaming engine's own iterations are what it sequences (10_state.md R21, 42_session_control.md R171). -/

namespace Sys2Proof.Machine

/-- What the block does next. -/
inductive Turn where
  /-- It takes this operation, in this state. -/
  | take (i : Instr) (s : State)
  /-- "It waits in IDLE for a host operation" (R222); so it does in CONFIGURING, TRIGGERED and FAULT (R178). -/
  | wait
deriving DecidableEq, Repr

/-- The next turn: the head of the agenda; with an empty agenda, in STREAMING, the engine's own STREAM_CHUNK with a free time
input (R149, R177; log 5); else the block waits (log 9). -/
def nextTurn (s : State) : Turn :=
  match s.agenda with
  | i :: rest => .take i { s with agenda := rest }
  | [] =>
    if s.phase = .streaming then
      .take (.streamChunk (Config.freeNow s.nowCount)) { s with nowCount := s.nowCount + 1 }
    else .wait

/-- `s` with the operation `i` at the head of its agenda. -/
def placeOp (i : Instr) (s : State) : State :=
  { s with agenda := i :: s.agenda }

/-- `s` with the bytes `b` at the head of RX and the oracle's next answer giving all of them: what a row in the format RESP
needs, whose bytes are VALIDATE's input on RX (log 11). -/
def placeResponse (b : List Byte) (s : State) : State :=
  { s with rx := b ++ s.rx, rxAnswers := .upTo b.length :: s.rxAnswers }

/-- `s` with the operation of an opcode-table row placed so that the next step takes it, decoded under the parameters `s`
holds; `s` itself where the bits are no operation (log 11). -/
def placeTable (nbits w : Nat) (s : State) : State :=
  match decodeTable s.params nbits w with
  | none => s
  | some i =>
    match encodedOfTable s.params nbits w with
    | .resp b => placeOp i (placeResponse b s)
    | .req _ => placeOp i s
    | .sc12 _ => placeOp i s
    | .sc16 _ => placeOp i s
    | .named _ => placeOp i s

end Sys2Proof.Machine
end

