-- ==== Sys2Proof/Machine/Step.lean ====
section
/-! DEFINITION. One step of the machine (00_scope.md R10, R13): one operation or one streaming iteration, atomically. -/

namespace Sys2Proof.Machine

/-- One step. Parameters that break R8 or R9 describe no block (R223 (b)); else the next turn is taken, and a block that
waits stays as it is. -/
def step (s : State) : Host.Outcome State Fault Refusal :=
  if s.params.wf then
    match nextTurn s with
    | .take i s' => exec i s'
    | .wait => .next s
  else .fault .badParameters

/-- `s` with the operation of an opcode-table row at the head of the agenda (log 11). -/
def State.withFetchWord (s : State) (nbits w : Nat) : State :=
  placeTable nbits w s

end Sys2Proof.Machine
end

