-- ==== Sys2Proof/Machine/Observe.lean ====
section
/-! DEFINITION. What a reader sees: the observation registers (10_state.md R37, R38) the one event text the spec gives
(60_exceptions.md R198) and the textual form of the operations (30_encoding.md R93). No operation reads any of it. -/

namespace Sys2Proof.Machine

/-- The bit of a flag. -/
def flagBit (b : Bool) : BitVec 1 :=
  BitVec.ofBool b

/-- STATUS, observation register 0 (R38); from bit 31 down to bit 0. -/
def statusWord (s : State) : Word :=
  causeCode s.lastCause ++ (0 : BitVec 4) ++ s.respLen ++ (0 : BitVec 5) ++ flagBit (framingPending s) ++
    flagBit s.respValid ++ flagBit s.statusErr ++ flagBit s.codeErr ++ flagBit s.sizeErr ++
    BitVec.ofNat 2 (residueCount s) ++ (0 : BitVec 1) ++ phaseCode s.phase

/-- RESIDUE_BYTES, observation register 7 (R37). -/
def residueBytes (s : State) : Word :=
  (0 : BitVec 16) ++ (if residueCount s = 2 then s.residue.getD 1 0 else 0) ++
    (if 1 ≤ residueCount s then s.residue.getD 0 0 else 0)

/-- The observation register of an index (R37): "An index above 7 reads as 0". -/
def observe (s : State) (index : Nat) : Word :=
  match index with
  | 0 => statusWord s
  | 1 => s.lastCode
  | 2 => s.respCode
  | 3 => s.respStatus
  | 4 => s.protoErrCount
  | 5 => s.pairCount
  | 6 => s.lastRate
  | 7 => residueBytes s
  | _ => 0

/-- The text of a REPORT: "the decimal rate, one space, `samples per second` and a line feed" (R198). -/
def reportText (rate : Nat) : List Char :=
  Nat.toDigits 10 rate ++ " samples per second\n".toList

/-- The text the spec gives an event; only REPORT has one (R198, R5 (g)). -/
def eventText : DiagEvent → Option (List Char)
  | .report rate => some (reportText rate)
  | .protocolError _ _ _ _ _ _ _ => none
  | .transportError _ => none
  | .framingDiscard _ => none
  | .rejected _ _ => none

/-- A numeral operand, in decimal (30_encoding.md R93). -/
def numeralText (n : Nat) : List Char :=
  Nat.toDigits 10 n

/-- Numerals separated by a comma and a space (R93). -/
def numeralsText : List Nat → List Char
  | [] => []
  | [n] => numeralText n
  | n :: rest => numeralText n ++ ", ".toList ++ numeralsText rest

/-- A line in the textual form of the operations (R93), its numerals in decimal. VALIDATE, UNPACK and PACK16 are internal and
have no line there. -/
def operationText : Instr → Option (List Char)
  | .cfgGpioPin group pin mode =>
    some ("CFG_GPIO_PIN ".toList ++ numeralsText [group.toNat, pin.toNat, mode.toNat])
  | .cfgGpioPinValue group pin mode value =>
    some ("CFG_GPIO_PIN ".toList ++ numeralsText [group.toNat, pin.toNat, mode.toNat, value.toNat])
  | .cfgDma => some "CFG_DMA".toList
  | .cfgAdc => some "CFG_ADC".toList
  | .triggerAdc => some "TRIGGER_ADC".toList
  | .readAdc now => some ("READ_ADC @".toList ++ numeralText now)
  | .validate => none
  | .unpack _ _ _ => none
  | .pack16 _ _ => none
  | .streamChunk now => some ("STREAM_CHUNK @".toList ++ numeralText now)
  | .cancel => some "CANCEL".toList
  | .reset => some "RESET".toList

end Sys2Proof.Machine
end

