-- ==== Sys2Proof/Safety.lean ====
section
/-! DEFINITION. The terms the claims use: which phases accept a command, the command table, runs of several operations, and
the invariants of the machine. -/

namespace Sys2Proof.Machine

/-- The phases in which every control operation is accepted: "In IDLE, CONFIGURING and TRIGGERED" (R111). -/
def accepts (ph : Phase) : Prop :=
  ph = .idle ∨ ph = .configuring ∨ ph = .triggered

/-- What R83 and R113 give a control operation that reads a response: the name it is rejected by, its code, the arguments
on the wire, its target phase. -/
structure CommandRow where
  op : Operation
  code : Word
  args : List Word
  target : Phase
deriving DecidableEq, Repr

/-- The commands that read a response (R83, R115): both forms of CFG_GPIO_PIN, CFG_DMA, CFG_ADC and TRIGGER_ADC. -/
def commandRow (p : Params) : Instr → Option CommandRow
  | .cfgGpioPin group pin mode => some ⟨.cfgGpioPin, p.codeCfgGpioPin, [group, pin, mode], .configuring⟩
  | .cfgGpioPinValue group pin mode value => some ⟨.cfgGpioPin, p.codeCfgGpioPin, [group, pin, mode, value], .configuring⟩
  | .cfgDma => some ⟨.cfgDma, p.codeCfgDma, [], .configuring⟩
  | .cfgAdc => some ⟨.cfgAdc, p.codeCfgAdc, [], .configuring⟩
  | .triggerAdc => some ⟨.triggerAdc, p.codeTriggerAdc, [], .triggered⟩
  | .readAdc _ => none
  | .validate => none
  | .unpack _ _ _ => none
  | .pack16 _ _ => none
  | .streamChunk _ => none
  | .cancel => none
  | .reset => none

/-- The name a control operation is rejected by (R197): that of its row, and READ_ADC. -/
def rejectedName : Instr → Option Operation
  | .cfgGpioPin _ _ _ => some .cfgGpioPin
  | .cfgGpioPinValue _ _ _ _ => some .cfgGpioPin
  | .cfgDma => some .cfgDma
  | .cfgAdc => some .cfgAdc
  | .triggerAdc => some .triggerAdc
  | .readAdc _ => some .readAdc
  | .validate => none
  | .unpack _ _ _ => none
  | .pack16 _ _ => none
  | .streamChunk _ => none
  | .cancel => none
  | .reset => none

/-- The code word a control operation sends (R83). -/
def sentCode (p : Params) : Instr → Option Word
  | .cfgGpioPin _ _ _ => some p.codeCfgGpioPin
  | .cfgGpioPinValue _ _ _ _ => some p.codeCfgGpioPin
  | .cfgDma => some p.codeCfgDma
  | .cfgAdc => some p.codeCfgAdc
  | .triggerAdc => some p.codeTriggerAdc
  | .readAdc _ => some p.codeReadAdc
  | .validate => none
  | .unpack _ _ _ => none
  | .pack16 _ _ => none
  | .streamChunk _ => none
  | .cancel => none
  | .reset => none

/-- Several operations one after the other, stopping at the first that does not answer a next state. -/
def runOps : List Instr → State → Host.Outcome State Fault Refusal
  | [], s => .next s
  | i :: rest, s =>
    match exec i s with
    | .next s' => runOps rest s'
    | .fault r => .fault r
    | .refused r => .refused r

/-- Streaming iterations at the given ticks. -/
def runChunks (ticks : List Nat) (s : State) : Host.Outcome State Fault Refusal :=
  runOps (ticks.map Instr.streamChunk) s

/-- The response fields agree with each other (R24 to R29, R118): before the first validation all are at their reset value;
after it SIZE_ERR says that fewer than 8 bytes arrived, excludes the other two, and STATUS_ERR of a complete response says that
RESP_STATUS is not 0. -/
def ResponseConsistent (s : State) : Prop :=
  s.respLen.toNat ≤ 8 ∧
  (s.respValid = false → s.respLen = 0 ∧ s.respCode = 0 ∧ s.respStatus = 0 ∧ s.protoErrCount = 0 ∧
    s.sizeErr = false ∧ s.codeErr = false ∧ s.statusErr = false) ∧
  (s.respValid = true → s.sizeErr = decide (s.respLen.toNat < 8)) ∧
  (s.sizeErr = true → s.codeErr = false ∧ s.statusErr = false) ∧
  (s.respValid = true → s.sizeErr = false → s.statusErr = (s.respStatus != 0))

/-- The invariant of the block: `len(RESIDUE) <= 2` (R31), a residue is held in STREAMING only, and the response fields agree. -/
def BlockInv (s : State) : Prop :=
  s.residue.length ≤ 2 ∧ (s.phase ≠ .streaming → s.residue = []) ∧ ResponseConsistent s

/-- OUT holds whole pairs of words whose bits [15:12] are 0 (R87, R91 (d)). -/
def OutWellFormed (s : State) : Prop :=
  s.out.length % 4 = 0 ∧ ∀ (k : Nat) (x : Byte), s.out[2 * k + 1]? = some x → x.toNat < 16

/-- In FAULT the last cause is the TransportError that led there or a command rejected since (R195, R197). -/
def FaultCauseKnown (s : State) : Prop :=
  s.phase = .fault → s.lastCause = .transport ∨ s.lastCause = .cmdInFault

end Sys2Proof.Machine
end

