-- ==== Sys2Proof/Certificates/Slice0/Obligations.lean ====
section
/-! DEFINITION. The statements for the provers: what the numbered rules say the operations and the machine do. Each docstring
names the rule it formalises; a clause that rests on a choice of the model names its log entry. -/

open Sys2Proof Sys2Proof.Machine

/-! ### Byte order, formats, encodings -/

/-- R52: `LE32` puts `b[i+3]` highest, and `BYTES_LE32` is its inverse both ways. -/
def Obligations.WireWordsAreLittleEndian : Prop :=
  (∀ b0 b1 b2 b3 : Byte, le32 b0 b1 b2 b3 = b3 ++ b2 ++ b1 ++ b0 ∧ bytesLE32 (le32 b0 b1 b2 b3) = [b0, b1, b2, b3]) ∧
  ∀ v : Word, bytesLE32 v = [v.extractLsb' 0 8, v.extractLsb' 8 8, v.extractLsb' 16 8, v.extractLsb' 24 8] ∧
    le32At (bytesLE32 v) 0 = v

/-- R81: the frame is `4 * (1 + k)` bytes, and its byte `4j + r` is byte `r` of word `j`, the code being word 0 and argument
`j - 1` word `j`. -/
def Obligations.FrameIsCodeThenArguments : Prop :=
  ∀ (code : Word) (args : List Word),
    (frame code args).length = 4 * (1 + args.length) ∧
    ∀ j r : Nat, r < 4 →
      (frame code args)[4 * j + r]? = ((code :: args)[j]?).map fun w => w.extractLsb' (8 * r) 8

/-- R89 (which the spec derives from R81 and R52): PARSE undoes FRAME, and accepts exactly the sequences of `4 * (1 + k)` bytes. -/
def Obligations.ParseUndoesFrame : Prop :=
  (∀ (code : Word) (args : List Word), args.length ≤ Config.maxArgs → parse (frame code args) = some (code, args)) ∧
  ∀ f : List Byte, (parse f).isSome = true ↔ ∃ k : Nat, f.length = 4 * (1 + k)

/-- R86, R140: `I = b0[7:0] ++ b1[7:4]`, `Q = b1[3:0] ++ b2[7:0]`. -/
def Obligations.UnpackTakesTheTripletFields : Prop :=
  ∀ b0 b1 b2 : Byte, unpack b0 b1 b2 = (b0 ++ b1.extractLsb' 4 4, b1.extractLsb' 0 4 ++ b2)

/-- R87, R141: bytes I[7:0], 0000 I[11:8], Q[7:0], 0000 Q[11:8]. -/
def Obligations.Pack16ZeroExtendsAndInterleaves : Prop :=
  ∀ i q : Sample, pack16 i q =
    [i.extractLsb' 0 8, (0 : BitVec 4) ++ i.extractLsb' 8 4, q.extractLsb' 0 8, (0 : BitVec 4) ++ q.extractLsb' 8 4]

/-- R142 (which the spec derives from R140): both components are in 0 to 4095, and UNPACK and PACK12 undo each other. -/
def Obligations.UnpackIsABijection : Prop :=
  (∀ b0 b1 b2 : Byte, (unpack b0 b1 b2).1.toNat ≤ 4095 ∧ (unpack b0 b1 b2).2.toNat ≤ 4095 ∧
    pack12 (unpack b0 b1 b2).1 (unpack b0 b1 b2).2 = (b0, b1, b2)) ∧
  ∀ i q : Sample, unpack (pack12 i q).1 (pack12 i q).2.1 (pack12 i q).2.2 = (i, q)

/-- R143: DECODE gives `len / 3` pairs, the `k`-th from bytes `3k` to `3k + 2` and written at bytes `4k` to `4k + 3`, and keeps
the bytes from `3 * (len / 3)` on. -/
def Obligations.DecodeConsumesWholeTriplets : Prop :=
  ∀ buf : List Byte,
    (pairsOf buf).length = buf.length / 3 ∧
    (sc16Of buf).length = 4 * (buf.length / 3) ∧
    restOf buf = buf.drop (3 * (buf.length / 3)) ∧
    ∀ k : Nat, k < buf.length / 3 →
      ((sc16Of buf).drop (4 * k)).take 4 =
        pack16 (unpack (buf.getD (3 * k) 0) (buf.getD (3 * k + 1) 0) (buf.getD (3 * k + 2) 0)).1
          (unpack (buf.getD (3 * k) 0) (buf.getD (3 * k + 1) 0) (buf.getD (3 * k + 2) 0)).2

/-- Decoding undoes encoding, for every operation at every operand, under every admitted assignment of the codes; the time
input comes beside the bytes (R83, R86, R87, R92). -/
def Obligations.DecodeUndoesEncode : Prop :=
  ∀ (p : Params) (i : Instr), p.wf = true → i.wf = true → decode p i.timeInput (encode p i) = .ok i

/-- Encoding undoes decoding of a REQ, SC12 or SC16 sequence: each has one meaning. -/
def Obligations.EncodeUndoesDecode : Prop :=
  ∀ (p : Params) (now : Nat) (b : List Byte) (i : Instr),
    (decode p now (.req b) = .ok i → encode p i = .req b) ∧
    (decode p now (.sc12 b) = .ok i → encode p i = .sc12 b) ∧
    (decode p now (.sc16 b) = .ok i → encode p i = .sc16 b)

/-- R80, R91: which byte sequences are refused, and by which name. A frame with a code outside the closed set is
`unknownCode`; a REQ length that is not `4 * (1 + k)`, an SC12 length that is not 3, an SC16 length that is not 4 or a RESP
length that is not 8 is `badLength`; an SC16 word with a bit of [15:12] set is `badSc16`. -/
def Obligations.ReservedEncodingsAreRefused : Prop :=
  ∀ (p : Params) (now : Nat),
    (∀ (code : Word) (args : List Word), code ∉ p.codes →
      decode p now (.req (frame code args)) = .error .unknownCode) ∧
    (∀ b : List Byte, (¬ ∃ k : Nat, b.length = 4 * (1 + k)) → decode p now (.req b) = .error .badLength) ∧
    (∀ b : List Byte, b.length ≠ 3 → decode p now (.sc12 b) = .error .badLength) ∧
    (∀ b : List Byte, b.length ≠ 4 → decode p now (.sc16 b) = .error .badLength) ∧
    (∀ b : List Byte, b.length ≠ 8 → decode p now (.resp b) = .error .badLength) ∧
    (∀ b0 b1 b2 b3 : Byte, (16 ≤ b1.toNat ∨ 16 ≤ b3.toNat) →
      decode p now (.sc16 [b0, b1, b2, b3]) = .error .badSc16)

/-- Sanity: words of the table under the example codes of `State.reset` (log 2, log 11). -/
def Obligations.SampleWordsDecode : Prop :=
  decodeTableWord 32 0x00000002 = some .cfgDma ∧
  decodeTableWord 128 0x00000003000000050000000200000001 = some (.cfgGpioPin 2 5 3) ∧
  decodeTableWord 24 0xABCDEF = some (.unpack 0xAB 0xCD 0xEF) ∧
  decodeTableWord 32 0x0ABC0DEF = some (.pack16 0xABC 0xDEF) ∧
  decodeTableWord 32 0xF0000000 = none

/-! ### The command channel -/

/-- R120 to R123 with a clean response: CFG_GPIO_PIN (both forms), CFG_DMA, CFG_ADC and TRIGGER_ADC, accepted, with the
write done and 8 bytes of the sent code and status 0 arrived, complete in this state and change nothing else. -/
def Obligations.CommandWithCleanResponse : Prop :=
  ∀ (s : State) (i : Instr) (row : CommandRow) (k : Nat),
    commandRow s.params i = some row → accepts s.phase → s.nextTx = .ok → s.nextRx = .upTo k →
    (s.arrived.take (min k 8)).length = 8 →
    le32At s.arrived 0 = row.code → le32At s.arrived 4 = 0 →
    exec i s = .next { s with
      tx := s.tx ++ frame row.code row.args
      txAnswers := s.txAnswers.tail
      txCount := s.txCount + 1
      rx := s.arrived.drop 8
      rxAnswers := s.rxAnswers.tail
      rxCount := s.rxCount + 1
      phase := row.target
      lastCode := row.code
      respLen := 8
      respValid := true
      respCode := row.code
      respStatus := 0
      sizeErr := false
      codeErr := false
      statusErr := false }

/-- R118, R193, R194 for the same five commands: a complete response whose echo or status is wrong sets its flags, counts
once, records the cause (code before status) and appends one event, and the operation completes in its target phase. -/
def Obligations.CommandWithWrongResponse : Prop :=
  ∀ (s : State) (i : Instr) (row : CommandRow) (k : Nat),
    commandRow s.params i = some row → accepts s.phase → s.nextTx = .ok → s.nextRx = .upTo k →
    (s.arrived.take (min k 8)).length = 8 →
    (le32At s.arrived 0 ≠ row.code ∨ le32At s.arrived 4 ≠ 0) →
    exec i s = .next { s with
      tx := s.tx ++ frame row.code row.args
      txAnswers := s.txAnswers.tail
      txCount := s.txCount + 1
      rx := s.arrived.drop 8
      rxAnswers := s.rxAnswers.tail
      rxCount := s.rxCount + 1
      phase := row.target
      lastCode := row.code
      respLen := 8
      respValid := true
      respCode := le32At s.arrived 0
      respStatus := le32At s.arrived 4
      sizeErr := false
      codeErr := decide (le32At s.arrived 0 ≠ row.code)
      statusErr := decide (le32At s.arrived 4 ≠ 0)
      protoErrCount := s.protoErrCount + 1
      lastCause := if le32At s.arrived 0 ≠ row.code then .protoCode else .protoStatus
      diag := s.diag ++ [.protocolError row.code 8 (some (le32At s.arrived 0)) (some (le32At s.arrived 4)) false
        (decide (le32At s.arrived 0 ≠ row.code)) (decide (le32At s.arrived 4 ≠ 0))] }

/-- R118, R193 for the same five commands: fewer than 8 bytes set SIZE_ERR alone, are consumed, and leave RESP_CODE and
RESP_STATUS. -/
def Obligations.CommandWithShortResponse : Prop :=
  ∀ (s : State) (i : Instr) (row : CommandRow) (k : Nat),
    commandRow s.params i = some row → accepts s.phase → s.nextTx = .ok → s.nextRx = .upTo k →
    (s.arrived.take (min k 8)).length < 8 →
    exec i s = .next { s with
      tx := s.tx ++ frame row.code row.args
      txAnswers := s.txAnswers.tail
      txCount := s.txCount + 1
      rx := s.arrived.drop (min k 8)
      rxAnswers := s.rxAnswers.tail
      rxCount := s.rxCount + 1
      phase := row.target
      lastCode := row.code
      respLen := BitVec.ofNat 4 (s.arrived.take (min k 8)).length
      respValid := true
      sizeErr := true
      codeErr := false
      statusErr := false
      protoErrCount := s.protoErrCount + 1
      lastCause := .protoSize
      diag := s.diag ++ [.protocolError row.code (s.arrived.take (min k 8)).length none none true false false] }

/-- R195, R192 for the same five commands: a failed response read keeps the frame and LAST_CODE, drops a residue with its
event, and ends in FAULT with cause 6. No byte is consumed (log 12). -/
def Obligations.CommandWithFailedRead : Prop :=
  ∀ (s : State) (i : Instr) (row : CommandRow),
    commandRow s.params i = some row → accepts s.phase → s.nextTx = .ok → s.nextRx = .fail →
    exec i s = .next { s with
      tx := s.tx ++ frame row.code row.args
      txAnswers := s.txAnswers.tail
      txCount := s.txCount + 1
      rx := s.arrived
      rxAnswers := s.rxAnswers.tail
      rxCount := s.rxCount + 1
      lastCode := row.code
      residue := []
      phase := .fault
      lastCause := .transport
      diag := s.diag ++ (if s.residue = [] then [] else [.framingDiscard s.residue.length]) ++ [.transportError .read] }

/-- R112, R195 for all six control operations (the five and READ_ADC): a failed write puts nothing on TX, leaves LAST_CODE,
and ends in FAULT with cause 6; nothing is read. -/
def Obligations.CommandWithFailedWrite : Prop :=
  ∀ (s : State) (i : Instr) (op : Operation),
    rejectedName i = some op → accepts s.phase → s.nextTx = .fail →
    exec i s = .next { s with
      txAnswers := s.txAnswers.tail
      txCount := s.txCount + 1
      residue := []
      phase := .fault
      lastCause := .transport
      diag := s.diag ++ (if s.residue = [] then [] else [.framingDiscard s.residue.length]) ++ [.transportError .write] }

/-- R111, R197 for all six control operations: in STREAMING (cause 7) and in FAULT (cause 8) a command writes nothing,
reads nothing, sets LAST_CAUSE and appends one REJECTED event. -/
def Obligations.CommandIsRejected : Prop :=
  ∀ (s : State) (i : Instr) (op : Operation), rejectedName i = some op →
    (s.phase = .streaming →
      exec i s = .next { s with lastCause := .cmdInStreaming, diag := s.diag ++ [.rejected op .cmdInStreaming] }) ∧
    (s.phase = .fault →
      exec i s = .next { s with lastCause := .cmdInFault, diag := s.diag ++ [.rejected op .cmdInFault] })

/-- R124: READ_ADC, accepted and written, empties RESIDUE and PAIR_COUNT, starts the window at `now`, enters STREAMING and
reads nothing. -/
def Obligations.ReadAdcEntersStreaming : Prop :=
  ∀ (s : State) (now : Nat), accepts s.phase → s.nextTx = .ok →
    exec (.readAdc now) s = .next { s with
      tx := s.tx ++ frame s.params.codeReadAdc []
      txAnswers := s.txAnswers.tail
      txCount := s.txCount + 1
      lastCode := s.params.codeReadAdc
      residue := []
      pairCount := 0
      windowStart := now
      phase := .streaming }

/-- R118 for VALIDATE taken on its own (log 6), when 8 bytes arrived: with `ec` and `st` its two words, the flags are the
two comparisons, and a ProtocolError is raised exactly if one is set. -/
def Obligations.ValidateComparesACompleteResponse : Prop :=
  ∀ (s : State) (k : Nat), s.nextRx = .upTo k → (s.arrived.take (min k 8)).length = 8 →
    exec .validate s = .next { s with
      rx := s.arrived.drop 8
      rxAnswers := s.rxAnswers.tail
      rxCount := s.rxCount + 1
      respLen := 8
      respValid := true
      respCode := le32At s.arrived 0
      respStatus := le32At s.arrived 4
      sizeErr := false
      codeErr := decide (le32At s.arrived 0 ≠ s.lastCode)
      statusErr := decide (le32At s.arrived 4 ≠ 0)
      protoErrCount :=
        if le32At s.arrived 0 = s.lastCode ∧ le32At s.arrived 4 = 0 then s.protoErrCount else s.protoErrCount + 1
      lastCause :=
        if le32At s.arrived 0 ≠ s.lastCode then .protoCode
        else if le32At s.arrived 4 ≠ 0 then .protoStatus else s.lastCause
      diag :=
        if le32At s.arrived 0 = s.lastCode ∧ le32At s.arrived 4 = 0 then s.diag
        else s.diag ++ [.protocolError s.lastCode 8 (some (le32At s.arrived 0)) (some (le32At s.arrived 4)) false
          (decide (le32At s.arrived 0 ≠ s.lastCode)) (decide (le32At s.arrived 4 ≠ 0))] }

/-- R118 for VALIDATE taken on its own (log 6), when fewer than 8 bytes arrived. -/
def Obligations.ValidateReportsAShortResponse : Prop :=
  ∀ (s : State) (k : Nat), s.nextRx = .upTo k → (s.arrived.take (min k 8)).length < 8 →
    exec .validate s = .next { s with
      rx := s.arrived.drop (min k 8)
      rxAnswers := s.rxAnswers.tail
      rxCount := s.rxCount + 1
      respLen := BitVec.ofNat 4 (s.arrived.take (min k 8)).length
      respValid := true
      sizeErr := true
      codeErr := false
      statusErr := false
      protoErrCount := s.protoErrCount + 1
      lastCause := .protoSize
      diag := s.diag ++ [.protocolError s.lastCode (s.arrived.take (min k 8)).length none none true false false] }

/-- R118, R195 for VALIDATE taken on its own (log 6), when the read failed: the response fields keep their values. -/
def Obligations.ValidateFailsOnAFailedRead : Prop :=
  ∀ s : State, s.nextRx = .fail →
    exec .validate s = .next { s with
      rx := s.arrived
      rxAnswers := s.rxAnswers.tail
      rxCount := s.rxCount + 1
      residue := []
      phase := .fault
      lastCause := .transport
      diag := s.diag ++ (if s.residue = [] then [] else [.framingDiscard s.residue.length]) ++ [.transportError .read] }

/-- R119 (which the spec derives from R118 and R194): for the five commands that read a response, once the response was read without Fail: PROTO_ERR_COUNT goes up by
exactly 1 and DIAG by exactly one PROTOCOL_ERROR event if the response is short, echoes another code or has a nonzero
status, with the flag of what was found set; else neither changes and no flag is set. -/
def Obligations.DetectionIsComplete : Prop :=
  ∀ (s t : State) (i : Instr) (row : CommandRow) (k : Nat),
    commandRow s.params i = some row → accepts s.phase → s.nextTx = .ok → s.nextRx = .upTo k → exec i s = .next t →
    let b := s.arrived.take (min k 8)
    (t.sizeErr = true ↔ b.length < 8) ∧
    (t.codeErr = true ↔ b.length = 8 ∧ respEcho b ≠ row.code) ∧
    (t.statusErr = true ↔ b.length = 8 ∧ respStatusWord b ≠ 0) ∧
    (if b.length < 8 ∨ respEcho b ≠ row.code ∨ respStatusWord b ≠ 0 then
      t.protoErrCount = s.protoErrCount + 1 ∧
      ∃ (len : Nat) (echoed status : Option Word),
        t.diag = s.diag ++ [.protocolError row.code len echoed status t.sizeErr t.codeErr t.statusErr]
    else t.protoErrCount = s.protoErrCount ∧ t.diag = s.diag)

/-- R117: from a state that meets the invariant, a command other than READ_ADC neither writes RESIDUE, PAIR_COUNT,
WINDOW_START and LAST_RATE nor reads them: with other values in them (that meet the invariant too) it does the same to every
other field. In every phase and whatever the transport answers. (A TransportError empties RESIDUE, which outside STREAMING is
already empty: the invariant is `StepKeepsTheInvariant`.) -/
def Obligations.CommandsLeaveTheUnpacker : Prop :=
  ∀ (s t : State) (i : Instr) (row : CommandRow), BlockInv s → commandRow s.params i = some row → exec i s = .next t →
    (t.residue = s.residue ∧ t.pairCount = s.pairCount ∧ t.windowStart = s.windowStart ∧ t.lastRate = s.lastRate) ∧
    ∀ (residue : List Byte) (pairs : Word) (window : Nat) (rate : Word), BlockInv { s with residue := residue } →
      exec i { s with residue := residue, pairCount := pairs, windowStart := window, lastRate := rate } =
        .next { t with residue := residue, pairCount := pairs, windowStart := window, lastRate := rate }

/-- R91 (a): what an operation adds to TX is nothing, or the one frame of its own code with its own arguments, a code of the
closed set and at most 4 arguments. -/
def Obligations.OnlyTheClosedSetReachesTx : Prop :=
  ∀ (s t : State) (i : Instr), exec i s = .next t →
    t.tx = s.tx ∨
    ∃ code : Word, sentCode s.params i = some code ∧ code ∈ s.params.codes ∧ i.args.length ≤ 4 ∧
      t.tx = s.tx ++ frame code i.args

/-! ### The streaming decoder -/

/-- UNPACK taken on its own returns its pair and changes nothing else (R140; where the pair goes: log 7). -/
def Obligations.UnpackCompletes : Prop :=
  ∀ (s : State) (b0 b1 b2 : Byte),
    exec (.unpack b0 b1 b2) s = .next { s with result := .pair (b0 ++ b1.extractLsb' 4 4) (b1.extractLsb' 0 4 ++ b2) }

/-- PACK16 taken on its own returns its four bytes and changes nothing else (R141; where they go: log 7). -/
def Obligations.Pack16Completes : Prop :=
  ∀ (s : State) (i q : Sample),
    exec (.pack16 i q) s = .next { s with
      result := .bytes [i.extractLsb' 0 8, (0 : BitVec 4) ++ i.extractLsb' 8 4, q.extractLsb' 0 8,
        (0 : BitVec 4) ++ q.extractLsb' 8 4] }

/-- R145, with no report due (R146 (b)): the chunk is what RX delivered of at most `P_CHUNK_SIZE` bytes, decoded after the
residue; OUT, RAW (where the tap is on), RESIDUE and PAIR_COUNT are written and nothing else. -/
def Obligations.StreamChunkWithoutReport : Prop :=
  ∀ (s : State) (now k : Nat), s.phase = .streaming → s.nextRx = .upTo k →
    now < s.windowStart + s.params.reportInterval →
    let chunk := s.arrived.take (min k s.params.chunkSize)
    let buf := s.residue ++ chunk
    exec (.streamChunk now) s = .next { s with
      rx := s.arrived.drop (min k s.params.chunkSize)
      rxAnswers := s.rxAnswers.tail
      rxCount := s.rxCount + 1
      residue := buf.drop (3 * (buf.length / 3))
      out := s.out ++ sc16Of buf
      raw := if s.params.rawTapEn then s.raw ++ chunk else s.raw
      pairCount := s.pairCount + BitVec.ofNat 32 (buf.length / 3) }

/-- R145, R146 with a report due: beside the above, one REPORT of the truncated rate, LAST_RATE its low 32 bits, and the
window started anew. -/
def Obligations.StreamChunkWithReport : Prop :=
  ∀ (s : State) (now k : Nat), s.params.wf = true → s.phase = .streaming → s.nextRx = .upTo k →
    s.windowStart + s.params.reportInterval ≤ now →
    let chunk := s.arrived.take (min k s.params.chunkSize)
    let buf := s.residue ++ chunk
    let count := s.pairCount + BitVec.ofNat 32 (buf.length / 3)
    let rate := count.toNat * s.params.tickHz / (now - s.windowStart)
    exec (.streamChunk now) s = .next { s with
      rx := s.arrived.drop (min k s.params.chunkSize)
      rxAnswers := s.rxAnswers.tail
      rxCount := s.rxCount + 1
      residue := buf.drop (3 * (buf.length / 3))
      out := s.out ++ sc16Of buf
      raw := if s.params.rawTapEn then s.raw ++ chunk else s.raw
      pairCount := 0
      lastRate := BitVec.ofNat 32 rate
      windowStart := now
      diag := s.diag ++ [.report rate] }

/-- R145, R195: a failed read drops the residue, with its event first (R199), and ends in FAULT; nothing is decoded, counted
or reported. No byte is consumed (log 12). -/
def Obligations.StreamChunkWithFailedRead : Prop :=
  ∀ (s : State) (now : Nat), s.phase = .streaming → s.nextRx = .fail →
    exec (.streamChunk now) s = .next { s with
      rx := s.arrived
      rxAnswers := s.rxAnswers.tail
      rxCount := s.rxCount + 1
      residue := []
      phase := .fault
      lastCause := .transport
      diag := s.diag ++ (if s.residue = [] then [] else [.framingDiscard s.residue.length]) ++ [.transportError .read] }

/-- R145, R170: outside STREAMING the iteration is not enabled; the model refuses it by name (log 8). -/
def Obligations.StreamChunkNeedsStreaming : Prop :=
  ∀ (s : State) (now : Nat), s.phase ≠ .streaming → exec (.streamChunk now) s = .refused .streamNotEnabled

/-- R148 (which the spec derives from R145): an iteration that read no byte, from a state that meets the invariant, writes nothing to OUT or RAW, leaves RESIDUE
and PHASE, and leaves PAIR_COUNT unless the throughput check, which still runs, reports. -/
def Obligations.EmptyReadIsHarmless : Prop :=
  ∀ (s t : State) (now k : Nat), BlockInv s → s.phase = .streaming → s.nextRx = .upTo k →
    s.arrived.take (min k s.params.chunkSize) = [] → exec (.streamChunk now) s = .next t →
    t.out = s.out ∧ t.raw = s.raw ∧ t.residue = s.residue ∧ t.phase = .streaming ∧
    (if s.windowStart + s.params.reportInterval ≤ now then
      t.pairCount = 0 ∧ t.diag = s.diag ++ [.report (s.pairCount.toNat * s.params.tickHz / (now - s.windowStart))]
    else t.pairCount = s.pairCount ∧ t.diag = s.diag)

/-- R147 (which the spec derives from R143 and R145): from a state that meets the invariant, over any run of iterations that ends in STREAMING (no TransportError), whatever the chunk lengths: with `S` the
bytes consumed, OUT got the decode of the residue and `S` as if unsplit, RESIDUE is its remainder, and RAW (where the tap is
on) got `S` (R59). Where the oracle's answers are scripted, `S` is what left the head of RX. -/
def Obligations.CarryOverEquivalence : Prop :=
  ∀ (ticks : List Nat) (s t : State), BlockInv s → runChunks ticks s = .next t → s.phase = .streaming →
    t.phase = .streaming →
    ∃ S : List Byte,
      t.out = s.out ++ sc16Of (s.residue ++ S) ∧
      t.residue = restOf (s.residue ++ S) ∧
      t.raw = (if s.params.rawTapEn then s.raw ++ S else s.raw) ∧
      (ticks.length ≤ s.rxAnswers.length → s.rx = S ++ t.rx)

/-- R208 with R147: two runs of iterations which start with no residue and consume the same bytes, as their RAW taps show,
write the same bytes to OUT and hold the same residue, however each cut them into chunks and whatever else differs. -/
def Obligations.ReplayOfRawReproducesOut : Prop :=
  ∀ (ticks ticks' : List Nat) (s t s' t' : State) (S : List Byte),
    runChunks ticks s = .next t → runChunks ticks' s' = .next t' →
    s.phase = .streaming → t.phase = .streaming → s'.phase = .streaming → t'.phase = .streaming →
    s.params.rawTapEn = true → s'.params.rawTapEn = true → s.residue = [] → s'.residue = [] →
    t.raw = s.raw ++ S → t'.raw = s'.raw ++ S →
    ∃ O : List Byte, t.out = s.out ++ O ∧ t'.out = s'.out ++ O ∧ t.residue = t'.residue

/-- R150 (which the spec derives from R146): a window of one second that starts with no pair counted, iterations before its end and one at its end, `n` pairs
decoded in all (fewer than 2^32, the width of PAIR_COUNT): exactly one report, of `n`, and the counter at 0. -/
def Obligations.SyntheticClockReportsOnce : Prop :=
  ∀ (ticks : List Nat) (s t : State) (n : Nat), s.params.wf = true → s.params.reportInterval = s.params.tickHz →
    s.phase = .streaming → s.pairCount = 0 → (∀ x ∈ ticks, x < s.windowStart + s.params.reportInterval) →
    runChunks (ticks ++ [s.windowStart + s.params.reportInterval]) s = .next t → t.phase = .streaming →
    t.out.length = s.out.length + 4 * n → n < 2 ^ 32 →
    t.diag = s.diag ++ [.report n] ∧ t.lastRate = BitVec.ofNat 32 n ∧ t.pairCount = 0 ∧
    t.windowStart = s.windowStart + s.params.reportInterval

/-! ### Session control, reset, observation -/

/-- R174: CANCEL in STREAMING drops the residue (cause 5 and the event, if one is held) and returns to IDLE; elsewhere it
changes nothing. -/
def Obligations.CancelEndsStreaming : Prop :=
  ∀ s : State,
    (s.phase = .streaming → exec .cancel s = .next { s with
      residue := []
      phase := .idle
      lastCause := if s.residue = [] then s.lastCause else .framingDiscard
      diag := s.diag ++ (if s.residue = [] then [] else [.framingDiscard s.residue.length]) }) ∧
    (s.phase ≠ .streaming → exec .cancel s = .next s)

/-- R220, R221: RESET, in every phase, reports a residue held, gives every field of the block its reset value, and leaves TX,
RX, OUT, RAW and all else. -/
def Obligations.ResetClearsTheBlock : Prop :=
  ∀ s : State, exec .reset s = .next { s with
    diag := s.diag ++ (if s.residue = [] then [] else [.framingDiscard s.residue.length])
    phase := .idle
    lastCode := 0
    respCode := 0
    respStatus := 0
    respLen := 0
    sizeErr := false
    codeErr := false
    statusErr := false
    respValid := false
    protoErrCount := 0
    lastCause := .none
    residue := []
    pairCount := 0
    windowStart := 0
    lastRate := 0 }

/-- R220's example and R222: after RESET, from any state, and at power-on every observation register reads 0 and WINDOW_START
is 0. -/
def Obligations.EveryRegisterReadsZeroAfterReset : Prop :=
  (∀ s : State, ∃ t : State, exec .reset s = .next t ∧ t.windowStart = 0 ∧ ∀ n : Nat, observe t n = 0) ∧
  State.reset.windowStart = 0 ∧ ∀ n : Nat, observe State.reset n = 0

/-- R37: the observation registers 1 to 7, and 0 above them. -/
def Obligations.ObservationRegisters : Prop :=
  ∀ s : State,
    observe s 1 = s.lastCode ∧ observe s 2 = s.respCode ∧ observe s 3 = s.respStatus ∧ observe s 4 = s.protoErrCount ∧
    observe s 5 = s.pairCount ∧ observe s 6 = s.lastRate ∧
    (observe s 7).extractLsb' 0 8 = (if 1 ≤ s.residue.length then s.residue.getD 0 0 else 0) ∧
    (observe s 7).extractLsb' 8 8 = (if s.residue.length = 2 then s.residue.getD 1 0 else 0) ∧
    (observe s 7).extractLsb' 16 16 = 0 ∧
    ∀ n : Nat, 7 < n → observe s n = 0

/-- R38: where each field of STATUS lies, and the reserved bits. -/
def Obligations.StatusPacking : Prop :=
  ∀ s : State,
    let w := observe s 0
    w.extractLsb' 0 3 = phaseCode s.phase ∧
    w.extractLsb' 3 1 = 0 ∧
    w.extractLsb' 4 2 = BitVec.ofNat 2 s.residue.length ∧
    w.getLsbD 6 = s.sizeErr ∧
    w.getLsbD 7 = s.codeErr ∧
    w.getLsbD 8 = s.statusErr ∧
    w.getLsbD 9 = s.respValid ∧
    w.getLsbD 10 = decide (s.residue.length ≠ 0) ∧
    w.extractLsb' 11 5 = 0 ∧
    w.extractLsb' 16 4 = s.respLen ∧
    w.extractLsb' 20 4 = 0 ∧
    w.extractLsb' 24 8 = causeCode s.lastCause

/-- R22, R190: the numbers of the phases and of the causes; code 4 is no cause's. -/
def Obligations.EnumerationCodes : Prop :=
  phaseCode .idle = 0 ∧ phaseCode .configuring = 1 ∧ phaseCode .triggered = 2 ∧ phaseCode .streaming = 3 ∧
  phaseCode .fault = 4 ∧
  causeCode .none = 0 ∧ causeCode .protoSize = 1 ∧ causeCode .protoCode = 2 ∧ causeCode .protoStatus = 3 ∧
  causeCode .framingDiscard = 5 ∧ causeCode .transport = 6 ∧ causeCode .cmdInStreaming = 7 ∧
  causeCode .cmdInFault = 8 ∧ ∀ c : Cause, causeCode c ≠ 4 ∧ (causeCode c).toNat ≤ 8

/-- R198: the text of T2's report, `2048 samples per second` and a line feed (95_test_vectors.md 3.6). -/
def Obligations.ReportTextOfTwoThousandFortyEight : Prop :=
  eventText (.report 2048) = some "2048 samples per second\n".toList

/-! ### The machine -/

/-- R170, the whole table: the phase after each operation in each phase, the cause of a rejection, and "no effect" of CANCEL
outside STREAMING. A TransportError is a failed write, or a failed read of an operation that reads. "not enabled" is that no
next state comes of a STREAM_CHUNK outside STREAMING. -/
def Obligations.PhaseTransitionTable : Prop :=
  ∀ (s t : State) (i : Instr), exec i s = .next t →
    (∀ row : CommandRow, commandRow s.params i = some row →
      (accepts s.phase → t.phase = if s.nextTx = .fail ∨ s.nextRx = .fail then .fault else row.target) ∧
      (¬ accepts s.phase →
        t.phase = s.phase ∧ t.lastCause = if s.phase = .streaming then .cmdInStreaming else .cmdInFault)) ∧
    (∀ now : Nat, i = .readAdc now →
      (accepts s.phase → t.phase = if s.nextTx = .fail then .fault else .streaming) ∧
      (¬ accepts s.phase →
        t.phase = s.phase ∧ t.lastCause = if s.phase = .streaming then .cmdInStreaming else .cmdInFault)) ∧
    (∀ now : Nat, i = .streamChunk now →
      s.phase = .streaming ∧ t.phase = if s.nextRx = .fail then .fault else .streaming) ∧
    (i = .cancel → if s.phase = .streaming then t.phase = .idle else t = s) ∧
    (i = .reset → t.phase = .idle)

/-- R202: no operation but RESET leaves FAULT, and RESET does. -/
def Obligations.OnlyResetLeavesFault : Prop :=
  ∀ s : State, s.phase = .fault →
    (∀ (i : Instr) (t : State), exec i s = .next t → i ≠ .reset → t.phase = .fault) ∧
    ∃ t : State, exec .reset s = .next t ∧ t.phase = .idle

/-- R149: in STREAMING the iteration is enabled at every tick, and what leaves STREAMING is CANCEL, RESET, or a failed read (of
STREAM_CHUNK, or of VALIDATE taken on its own, log 6). -/
def Obligations.WhatLeavesStreaming : Prop :=
  ∀ s : State, s.phase = .streaming →
    (∀ now : Nat, ∃ t : State, exec (.streamChunk now) s = .next t) ∧
    ∀ (i : Instr) (t : State), exec i s = .next t → t.phase ≠ .streaming →
      (i = .cancel ∧ t.phase = .idle) ∨ (i = .reset ∧ t.phase = .idle) ∨
      (t.phase = .fault ∧ s.nextRx = .fail ∧ (i = .validate ∨ ∃ now : Nat, i = .streamChunk now))

/-- R199: what one operation appends to DIAG. A control operation, from a state that meets the invariant, appends at most one
event; STREAM_CHUNK at most one REPORT, or on a failed read FRAMING_DISCARD (if a residue is held) and then TRANSPORT_ERROR;
CANCEL and RESET at most one FRAMING_DISCARD. -/
def Obligations.ReportsOfOneOperation : Prop :=
  ∀ (s t : State) (i : Instr), BlockInv s → exec i s = .next t →
    ∃ events : List DiagEvent, t.diag = s.diag ++ events ∧
      (∀ op : Operation, rejectedName i = some op → events.length ≤ 1) ∧
      (∀ now : Nat, i = .streamChunk now →
        events = [] ∨ (∃ rate : Nat, events = [.report rate]) ∨ events = [.transportError .read] ∨
        ∃ k : Nat, (k = 1 ∨ k = 2) ∧ events = [.framingDiscard k, .transportError .read]) ∧
      (i = .cancel ∨ i = .reset → events = [] ∨ ∃ k : Nat, (k = 1 ∨ k = 2) ∧ events = [.framingDiscard k])

/-- R190, R195, R197: in FAULT LAST_CAUSE is TRANSPORT or CMD_IN_FAULT; every operation but VALIDATE taken on its own (log 6)
keeps that. -/
def Obligations.FaultCauseStaysKnown : Prop :=
  ∀ (s t : State) (i : Instr), FaultCauseKnown s → i ≠ .validate → exec i s = .next t → FaultCauseKnown t

/-- The invariant holds at power-on: R31's bound, no residue outside STREAMING, response fields that agree. -/
def Obligations.ResetMeetsTheInvariant : Prop :=
  BlockInv State.reset ∧ OutWellFormed State.reset ∧ FaultCauseKnown State.reset

/-- R31 ("after every step") and R24 to R28: every step from a state that meets the invariant ends in one. -/
def Obligations.StepKeepsTheInvariant : Prop :=
  ∀ s t : State, BlockInv s → step s = .next t → BlockInv t

/-- R87, R91 (d): every step keeps OUT whole pairs of words with bits [15:12] zero. -/
def Obligations.StepKeepsOutWellFormed : Prop :=
  ∀ s t : State, OutWellFormed s → step s = .next t → OutWellFormed t

/-- R36: no step writes a parameter. -/
def Obligations.StepKeepsTheParameters : Prop :=
  ∀ s t : State, step s = .next t → t.params = s.params

/-- R50, R55, R56: a step only appends to TX, OUT, RAW and DIAG, and from RX takes nothing or bytes at its head, at most the 8 of
a response or the `P_CHUNK_SIZE` of a chunk. -/
def Obligations.ChannelsAreAppendOnly : Prop :=
  ∀ s t : State, step s = .next t →
    s.tx <+: t.tx ∧ s.out <+: t.out ∧ s.raw <+: t.raw ∧ s.diag <+: t.diag ∧
    (t.rx = s.rx ∨ ∃ n : Nat, n ≤ max 8 s.params.chunkSize ∧ t.rx = s.arrived.drop n)

/-- A step takes the operation at the head of the agenda (R69, R13; log 1). -/
def Obligations.StepTakesTheNextOperation : Prop :=
  ∀ (s : State) (i : Instr) (rest : List Instr), s.params.wf = true → s.agenda = i :: rest →
    step s = exec i { s with agenda := rest }

/-- R149, R177: with no operation requested, in STREAMING the engine takes a STREAM_CHUNK of its own at a free time (log 5); in
every other phase the block waits unchanged (R222, R178; log 9). -/
def Obligations.StepWithoutARequest : Prop :=
  ∀ s : State, s.params.wf = true → s.agenda = [] →
    (s.phase = .streaming →
      step s = exec (.streamChunk (Config.freeNow s.nowCount)) { s with nowCount := s.nowCount + 1 }) ∧
    (s.phase ≠ .streaming → step s = .next s)

/-- R223 (b): a step stops by name where the parameters are none the spec admits (R8, R9; log 10). -/
def Obligations.StepNeedsAdmittedParameters : Prop :=
  ∀ s : State,
    (¬ (1 ≤ s.params.chunkSize ∧ 1 ≤ s.params.tickHz ∧ 1 ≤ s.params.reportInterval ∧ s.params.codes.Nodup)) →
    step s = .fault .badParameters

/-- An operation decoded from the bits of an opcode-table row and placed is what the next step runs; a row in the format RESP
also places its bytes on RX (log 11). -/
def Obligations.PlacedTableRowRuns : Prop :=
  ∀ (s : State) (nbits w : Nat) (i : Instr), s.params.wf = true → decodeTable s.params nbits w = some i →
    (∀ b : List Byte, encodedOfTable s.params nbits w = .resp b →
      i = .validate ∧ step (s.withFetchWord nbits w) = exec i (placeResponse b s)) ∧
    ((∀ b : List Byte, encodedOfTable s.params nbits w ≠ .resp b) → step (s.withFetchWord nbits w) = exec i s)
end

