-- ==== Sys2Proof/Laws/State.lean ====
section
/-! SUPPORT. One lemma per field for each named update of the state, so that no proof unfolds a record update. -/

namespace Sys2Proof.Machine

/-! ### `afterRx` -/

@[simp] theorem afterRx_phase (s : State) (k : Nat) : (s.afterRx k).phase = s.phase := rfl
@[simp] theorem afterRx_lastCode (s : State) (k : Nat) : (s.afterRx k).lastCode = s.lastCode := rfl
@[simp] theorem afterRx_respCode (s : State) (k : Nat) : (s.afterRx k).respCode = s.respCode := rfl
@[simp] theorem afterRx_respStatus (s : State) (k : Nat) : (s.afterRx k).respStatus = s.respStatus := rfl
@[simp] theorem afterRx_respLen (s : State) (k : Nat) : (s.afterRx k).respLen = s.respLen := rfl
@[simp] theorem afterRx_sizeErr (s : State) (k : Nat) : (s.afterRx k).sizeErr = s.sizeErr := rfl
@[simp] theorem afterRx_codeErr (s : State) (k : Nat) : (s.afterRx k).codeErr = s.codeErr := rfl
@[simp] theorem afterRx_statusErr (s : State) (k : Nat) : (s.afterRx k).statusErr = s.statusErr := rfl
@[simp] theorem afterRx_respValid (s : State) (k : Nat) : (s.afterRx k).respValid = s.respValid := rfl
@[simp] theorem afterRx_protoErrCount (s : State) (k : Nat) : (s.afterRx k).protoErrCount = s.protoErrCount := rfl
@[simp] theorem afterRx_lastCause (s : State) (k : Nat) : (s.afterRx k).lastCause = s.lastCause := rfl
@[simp] theorem afterRx_residue (s : State) (k : Nat) : (s.afterRx k).residue = s.residue := rfl
@[simp] theorem afterRx_pairCount (s : State) (k : Nat) : (s.afterRx k).pairCount = s.pairCount := rfl
@[simp] theorem afterRx_windowStart (s : State) (k : Nat) : (s.afterRx k).windowStart = s.windowStart := rfl
@[simp] theorem afterRx_lastRate (s : State) (k : Nat) : (s.afterRx k).lastRate = s.lastRate := rfl
@[simp] theorem afterRx_tx (s : State) (k : Nat) : (s.afterRx k).tx = s.tx := rfl
@[simp] theorem afterRx_rx (s : State) (k : Nat) : (s.afterRx k).rx = s.arrived.drop k := rfl
@[simp] theorem afterRx_out (s : State) (k : Nat) : (s.afterRx k).out = s.out := rfl
@[simp] theorem afterRx_raw (s : State) (k : Nat) : (s.afterRx k).raw = s.raw := rfl
@[simp] theorem afterRx_diag (s : State) (k : Nat) : (s.afterRx k).diag = s.diag := rfl
@[simp] theorem afterRx_params (s : State) (k : Nat) : (s.afterRx k).params = s.params := rfl
@[simp] theorem afterRx_agenda (s : State) (k : Nat) : (s.afterRx k).agenda = s.agenda := rfl
@[simp] theorem afterRx_rxAnswers (s : State) (k : Nat) : (s.afterRx k).rxAnswers = s.rxAnswers.tail := rfl
@[simp] theorem afterRx_rxCount (s : State) (k : Nat) : (s.afterRx k).rxCount = s.rxCount + 1 := rfl
@[simp] theorem afterRx_txAnswers (s : State) (k : Nat) : (s.afterRx k).txAnswers = s.txAnswers := rfl
@[simp] theorem afterRx_txCount (s : State) (k : Nat) : (s.afterRx k).txCount = s.txCount := rfl
@[simp] theorem afterRx_nowCount (s : State) (k : Nat) : (s.afterRx k).nowCount = s.nowCount := rfl
@[simp] theorem afterRx_result (s : State) (k : Nat) : (s.afterRx k).result = s.result := rfl

/-! ### `afterTx` -/

@[simp] theorem afterTx_phase (s : State) (b : List Byte) : (s.afterTx b).phase = s.phase := rfl
@[simp] theorem afterTx_lastCode (s : State) (b : List Byte) : (s.afterTx b).lastCode = s.lastCode := rfl
@[simp] theorem afterTx_respCode (s : State) (b : List Byte) : (s.afterTx b).respCode = s.respCode := rfl
@[simp] theorem afterTx_respStatus (s : State) (b : List Byte) : (s.afterTx b).respStatus = s.respStatus := rfl
@[simp] theorem afterTx_respLen (s : State) (b : List Byte) : (s.afterTx b).respLen = s.respLen := rfl
@[simp] theorem afterTx_sizeErr (s : State) (b : List Byte) : (s.afterTx b).sizeErr = s.sizeErr := rfl
@[simp] theorem afterTx_codeErr (s : State) (b : List Byte) : (s.afterTx b).codeErr = s.codeErr := rfl
@[simp] theorem afterTx_statusErr (s : State) (b : List Byte) : (s.afterTx b).statusErr = s.statusErr := rfl
@[simp] theorem afterTx_respValid (s : State) (b : List Byte) : (s.afterTx b).respValid = s.respValid := rfl
@[simp] theorem afterTx_protoErrCount (s : State) (b : List Byte) : (s.afterTx b).protoErrCount = s.protoErrCount := rfl
@[simp] theorem afterTx_lastCause (s : State) (b : List Byte) : (s.afterTx b).lastCause = s.lastCause := rfl
@[simp] theorem afterTx_residue (s : State) (b : List Byte) : (s.afterTx b).residue = s.residue := rfl
@[simp] theorem afterTx_pairCount (s : State) (b : List Byte) : (s.afterTx b).pairCount = s.pairCount := rfl
@[simp] theorem afterTx_windowStart (s : State) (b : List Byte) : (s.afterTx b).windowStart = s.windowStart := rfl
@[simp] theorem afterTx_lastRate (s : State) (b : List Byte) : (s.afterTx b).lastRate = s.lastRate := rfl
@[simp] theorem afterTx_tx (s : State) (b : List Byte) : (s.afterTx b).tx = s.tx ++ b := rfl
@[simp] theorem afterTx_rx (s : State) (b : List Byte) : (s.afterTx b).rx = s.rx := rfl
@[simp] theorem afterTx_out (s : State) (b : List Byte) : (s.afterTx b).out = s.out := rfl
@[simp] theorem afterTx_raw (s : State) (b : List Byte) : (s.afterTx b).raw = s.raw := rfl
@[simp] theorem afterTx_diag (s : State) (b : List Byte) : (s.afterTx b).diag = s.diag := rfl
@[simp] theorem afterTx_params (s : State) (b : List Byte) : (s.afterTx b).params = s.params := rfl
@[simp] theorem afterTx_agenda (s : State) (b : List Byte) : (s.afterTx b).agenda = s.agenda := rfl
@[simp] theorem afterTx_rxAnswers (s : State) (b : List Byte) : (s.afterTx b).rxAnswers = s.rxAnswers := rfl
@[simp] theorem afterTx_rxCount (s : State) (b : List Byte) : (s.afterTx b).rxCount = s.rxCount := rfl
@[simp] theorem afterTx_txAnswers (s : State) (b : List Byte) : (s.afterTx b).txAnswers = s.txAnswers.tail := rfl
@[simp] theorem afterTx_txCount (s : State) (b : List Byte) : (s.afterTx b).txCount = s.txCount + 1 := rfl
@[simp] theorem afterTx_nowCount (s : State) (b : List Byte) : (s.afterTx b).nowCount = s.nowCount := rfl
@[simp] theorem afterTx_result (s : State) (b : List Byte) : (s.afterTx b).result = s.result := rfl

/-! ### `outWrite` -/

@[simp] theorem outWrite_phase (b : List Byte) (s : State) : (outWrite b s).phase = s.phase := rfl
@[simp] theorem outWrite_lastCode (b : List Byte) (s : State) : (outWrite b s).lastCode = s.lastCode := rfl
@[simp] theorem outWrite_respCode (b : List Byte) (s : State) : (outWrite b s).respCode = s.respCode := rfl
@[simp] theorem outWrite_respStatus (b : List Byte) (s : State) : (outWrite b s).respStatus = s.respStatus := rfl
@[simp] theorem outWrite_respLen (b : List Byte) (s : State) : (outWrite b s).respLen = s.respLen := rfl
@[simp] theorem outWrite_sizeErr (b : List Byte) (s : State) : (outWrite b s).sizeErr = s.sizeErr := rfl
@[simp] theorem outWrite_codeErr (b : List Byte) (s : State) : (outWrite b s).codeErr = s.codeErr := rfl
@[simp] theorem outWrite_statusErr (b : List Byte) (s : State) : (outWrite b s).statusErr = s.statusErr := rfl
@[simp] theorem outWrite_respValid (b : List Byte) (s : State) : (outWrite b s).respValid = s.respValid := rfl
@[simp] theorem outWrite_protoErrCount (b : List Byte) (s : State) : (outWrite b s).protoErrCount = s.protoErrCount := rfl
@[simp] theorem outWrite_lastCause (b : List Byte) (s : State) : (outWrite b s).lastCause = s.lastCause := rfl
@[simp] theorem outWrite_residue (b : List Byte) (s : State) : (outWrite b s).residue = s.residue := rfl
@[simp] theorem outWrite_pairCount (b : List Byte) (s : State) : (outWrite b s).pairCount = s.pairCount := rfl
@[simp] theorem outWrite_windowStart (b : List Byte) (s : State) : (outWrite b s).windowStart = s.windowStart := rfl
@[simp] theorem outWrite_lastRate (b : List Byte) (s : State) : (outWrite b s).lastRate = s.lastRate := rfl
@[simp] theorem outWrite_tx (b : List Byte) (s : State) : (outWrite b s).tx = s.tx := rfl
@[simp] theorem outWrite_rx (b : List Byte) (s : State) : (outWrite b s).rx = s.rx := rfl
@[simp] theorem outWrite_out (b : List Byte) (s : State) : (outWrite b s).out = s.out ++ b := rfl
@[simp] theorem outWrite_raw (b : List Byte) (s : State) : (outWrite b s).raw = s.raw := rfl
@[simp] theorem outWrite_diag (b : List Byte) (s : State) : (outWrite b s).diag = s.diag := rfl
@[simp] theorem outWrite_params (b : List Byte) (s : State) : (outWrite b s).params = s.params := rfl
@[simp] theorem outWrite_agenda (b : List Byte) (s : State) : (outWrite b s).agenda = s.agenda := rfl
@[simp] theorem outWrite_rxAnswers (b : List Byte) (s : State) : (outWrite b s).rxAnswers = s.rxAnswers := rfl
@[simp] theorem outWrite_rxCount (b : List Byte) (s : State) : (outWrite b s).rxCount = s.rxCount := rfl
@[simp] theorem outWrite_txAnswers (b : List Byte) (s : State) : (outWrite b s).txAnswers = s.txAnswers := rfl
@[simp] theorem outWrite_txCount (b : List Byte) (s : State) : (outWrite b s).txCount = s.txCount := rfl
@[simp] theorem outWrite_nowCount (b : List Byte) (s : State) : (outWrite b s).nowCount = s.nowCount := rfl
@[simp] theorem outWrite_result (b : List Byte) (s : State) : (outWrite b s).result = s.result := rfl

/-! ### `rawWrite` -/

@[simp] theorem rawWrite_phase (b : List Byte) (s : State) : (rawWrite b s).phase = s.phase := rfl
@[simp] theorem rawWrite_lastCode (b : List Byte) (s : State) : (rawWrite b s).lastCode = s.lastCode := rfl
@[simp] theorem rawWrite_respCode (b : List Byte) (s : State) : (rawWrite b s).respCode = s.respCode := rfl
@[simp] theorem rawWrite_respStatus (b : List Byte) (s : State) : (rawWrite b s).respStatus = s.respStatus := rfl
@[simp] theorem rawWrite_respLen (b : List Byte) (s : State) : (rawWrite b s).respLen = s.respLen := rfl
@[simp] theorem rawWrite_sizeErr (b : List Byte) (s : State) : (rawWrite b s).sizeErr = s.sizeErr := rfl
@[simp] theorem rawWrite_codeErr (b : List Byte) (s : State) : (rawWrite b s).codeErr = s.codeErr := rfl
@[simp] theorem rawWrite_statusErr (b : List Byte) (s : State) : (rawWrite b s).statusErr = s.statusErr := rfl
@[simp] theorem rawWrite_respValid (b : List Byte) (s : State) : (rawWrite b s).respValid = s.respValid := rfl
@[simp] theorem rawWrite_protoErrCount (b : List Byte) (s : State) : (rawWrite b s).protoErrCount = s.protoErrCount := rfl
@[simp] theorem rawWrite_lastCause (b : List Byte) (s : State) : (rawWrite b s).lastCause = s.lastCause := rfl
@[simp] theorem rawWrite_residue (b : List Byte) (s : State) : (rawWrite b s).residue = s.residue := rfl
@[simp] theorem rawWrite_pairCount (b : List Byte) (s : State) : (rawWrite b s).pairCount = s.pairCount := rfl
@[simp] theorem rawWrite_windowStart (b : List Byte) (s : State) : (rawWrite b s).windowStart = s.windowStart := rfl
@[simp] theorem rawWrite_lastRate (b : List Byte) (s : State) : (rawWrite b s).lastRate = s.lastRate := rfl
@[simp] theorem rawWrite_tx (b : List Byte) (s : State) : (rawWrite b s).tx = s.tx := rfl
@[simp] theorem rawWrite_rx (b : List Byte) (s : State) : (rawWrite b s).rx = s.rx := rfl
@[simp] theorem rawWrite_out (b : List Byte) (s : State) : (rawWrite b s).out = s.out := rfl
@[simp] theorem rawWrite_raw (b : List Byte) (s : State) : (rawWrite b s).raw = s.raw ++ b := rfl
@[simp] theorem rawWrite_diag (b : List Byte) (s : State) : (rawWrite b s).diag = s.diag := rfl
@[simp] theorem rawWrite_params (b : List Byte) (s : State) : (rawWrite b s).params = s.params := rfl
@[simp] theorem rawWrite_agenda (b : List Byte) (s : State) : (rawWrite b s).agenda = s.agenda := rfl
@[simp] theorem rawWrite_rxAnswers (b : List Byte) (s : State) : (rawWrite b s).rxAnswers = s.rxAnswers := rfl
@[simp] theorem rawWrite_rxCount (b : List Byte) (s : State) : (rawWrite b s).rxCount = s.rxCount := rfl
@[simp] theorem rawWrite_txAnswers (b : List Byte) (s : State) : (rawWrite b s).txAnswers = s.txAnswers := rfl
@[simp] theorem rawWrite_txCount (b : List Byte) (s : State) : (rawWrite b s).txCount = s.txCount := rfl
@[simp] theorem rawWrite_nowCount (b : List Byte) (s : State) : (rawWrite b s).nowCount = s.nowCount := rfl
@[simp] theorem rawWrite_result (b : List Byte) (s : State) : (rawWrite b s).result = s.result := rfl

/-! ### `diagEmit` -/

@[simp] theorem diagEmit_phase (e : DiagEvent) (s : State) : (diagEmit e s).phase = s.phase := rfl
@[simp] theorem diagEmit_lastCode (e : DiagEvent) (s : State) : (diagEmit e s).lastCode = s.lastCode := rfl
@[simp] theorem diagEmit_respCode (e : DiagEvent) (s : State) : (diagEmit e s).respCode = s.respCode := rfl
@[simp] theorem diagEmit_respStatus (e : DiagEvent) (s : State) : (diagEmit e s).respStatus = s.respStatus := rfl
@[simp] theorem diagEmit_respLen (e : DiagEvent) (s : State) : (diagEmit e s).respLen = s.respLen := rfl
@[simp] theorem diagEmit_sizeErr (e : DiagEvent) (s : State) : (diagEmit e s).sizeErr = s.sizeErr := rfl
@[simp] theorem diagEmit_codeErr (e : DiagEvent) (s : State) : (diagEmit e s).codeErr = s.codeErr := rfl
@[simp] theorem diagEmit_statusErr (e : DiagEvent) (s : State) : (diagEmit e s).statusErr = s.statusErr := rfl
@[simp] theorem diagEmit_respValid (e : DiagEvent) (s : State) : (diagEmit e s).respValid = s.respValid := rfl
@[simp] theorem diagEmit_protoErrCount (e : DiagEvent) (s : State) : (diagEmit e s).protoErrCount = s.protoErrCount := rfl
@[simp] theorem diagEmit_lastCause (e : DiagEvent) (s : State) : (diagEmit e s).lastCause = s.lastCause := rfl
@[simp] theorem diagEmit_residue (e : DiagEvent) (s : State) : (diagEmit e s).residue = s.residue := rfl
@[simp] theorem diagEmit_pairCount (e : DiagEvent) (s : State) : (diagEmit e s).pairCount = s.pairCount := rfl
@[simp] theorem diagEmit_windowStart (e : DiagEvent) (s : State) : (diagEmit e s).windowStart = s.windowStart := rfl
@[simp] theorem diagEmit_lastRate (e : DiagEvent) (s : State) : (diagEmit e s).lastRate = s.lastRate := rfl
@[simp] theorem diagEmit_tx (e : DiagEvent) (s : State) : (diagEmit e s).tx = s.tx := rfl
@[simp] theorem diagEmit_rx (e : DiagEvent) (s : State) : (diagEmit e s).rx = s.rx := rfl
@[simp] theorem diagEmit_out (e : DiagEvent) (s : State) : (diagEmit e s).out = s.out := rfl
@[simp] theorem diagEmit_raw (e : DiagEvent) (s : State) : (diagEmit e s).raw = s.raw := rfl
@[simp] theorem diagEmit_diag (e : DiagEvent) (s : State) : (diagEmit e s).diag = s.diag ++ [e] := rfl
@[simp] theorem diagEmit_params (e : DiagEvent) (s : State) : (diagEmit e s).params = s.params := rfl
@[simp] theorem diagEmit_agenda (e : DiagEvent) (s : State) : (diagEmit e s).agenda = s.agenda := rfl
@[simp] theorem diagEmit_rxAnswers (e : DiagEvent) (s : State) : (diagEmit e s).rxAnswers = s.rxAnswers := rfl
@[simp] theorem diagEmit_rxCount (e : DiagEvent) (s : State) : (diagEmit e s).rxCount = s.rxCount := rfl
@[simp] theorem diagEmit_txAnswers (e : DiagEvent) (s : State) : (diagEmit e s).txAnswers = s.txAnswers := rfl
@[simp] theorem diagEmit_txCount (e : DiagEvent) (s : State) : (diagEmit e s).txCount = s.txCount := rfl
@[simp] theorem diagEmit_nowCount (e : DiagEvent) (s : State) : (diagEmit e s).nowCount = s.nowCount := rfl
@[simp] theorem diagEmit_result (e : DiagEvent) (s : State) : (diagEmit e s).result = s.result := rfl

/-! ### `recordResponse` -/

@[simp] theorem recordResponse_phase (code : Word) (b : List Byte) (s : State) : (recordResponse code b s).phase = s.phase := rfl
@[simp] theorem recordResponse_lastCode (code : Word) (b : List Byte) (s : State) : (recordResponse code b s).lastCode = s.lastCode := rfl
@[simp] theorem recordResponse_respCode (code : Word) (b : List Byte) (s : State) : (recordResponse code b s).respCode = (if sizeErrOf b then s.respCode else respEcho b) := rfl
@[simp] theorem recordResponse_respStatus (code : Word) (b : List Byte) (s : State) : (recordResponse code b s).respStatus = (if sizeErrOf b then s.respStatus else respStatusWord b) := rfl
@[simp] theorem recordResponse_respLen (code : Word) (b : List Byte) (s : State) : (recordResponse code b s).respLen = BitVec.ofNat 4 b.length := rfl
@[simp] theorem recordResponse_sizeErr (code : Word) (b : List Byte) (s : State) : (recordResponse code b s).sizeErr = sizeErrOf b := rfl
@[simp] theorem recordResponse_codeErr (code : Word) (b : List Byte) (s : State) : (recordResponse code b s).codeErr = codeErrOf code b := rfl
@[simp] theorem recordResponse_statusErr (code : Word) (b : List Byte) (s : State) : (recordResponse code b s).statusErr = statusErrOf b := rfl
@[simp] theorem recordResponse_respValid (code : Word) (b : List Byte) (s : State) : (recordResponse code b s).respValid = true := rfl
@[simp] theorem recordResponse_protoErrCount (code : Word) (b : List Byte) (s : State) : (recordResponse code b s).protoErrCount = s.protoErrCount := rfl
@[simp] theorem recordResponse_lastCause (code : Word) (b : List Byte) (s : State) : (recordResponse code b s).lastCause = s.lastCause := rfl
@[simp] theorem recordResponse_residue (code : Word) (b : List Byte) (s : State) : (recordResponse code b s).residue = s.residue := rfl
@[simp] theorem recordResponse_pairCount (code : Word) (b : List Byte) (s : State) : (recordResponse code b s).pairCount = s.pairCount := rfl
@[simp] theorem recordResponse_windowStart (code : Word) (b : List Byte) (s : State) : (recordResponse code b s).windowStart = s.windowStart := rfl
@[simp] theorem recordResponse_lastRate (code : Word) (b : List Byte) (s : State) : (recordResponse code b s).lastRate = s.lastRate := rfl
@[simp] theorem recordResponse_tx (code : Word) (b : List Byte) (s : State) : (recordResponse code b s).tx = s.tx := rfl
@[simp] theorem recordResponse_rx (code : Word) (b : List Byte) (s : State) : (recordResponse code b s).rx = s.rx := rfl
@[simp] theorem recordResponse_out (code : Word) (b : List Byte) (s : State) : (recordResponse code b s).out = s.out := rfl
@[simp] theorem recordResponse_raw (code : Word) (b : List Byte) (s : State) : (recordResponse code b s).raw = s.raw := rfl
@[simp] theorem recordResponse_diag (code : Word) (b : List Byte) (s : State) : (recordResponse code b s).diag = s.diag := rfl
@[simp] theorem recordResponse_params (code : Word) (b : List Byte) (s : State) : (recordResponse code b s).params = s.params := rfl
@[simp] theorem recordResponse_agenda (code : Word) (b : List Byte) (s : State) : (recordResponse code b s).agenda = s.agenda := rfl
@[simp] theorem recordResponse_rxAnswers (code : Word) (b : List Byte) (s : State) : (recordResponse code b s).rxAnswers = s.rxAnswers := rfl
@[simp] theorem recordResponse_rxCount (code : Word) (b : List Byte) (s : State) : (recordResponse code b s).rxCount = s.rxCount := rfl
@[simp] theorem recordResponse_txAnswers (code : Word) (b : List Byte) (s : State) : (recordResponse code b s).txAnswers = s.txAnswers := rfl
@[simp] theorem recordResponse_txCount (code : Word) (b : List Byte) (s : State) : (recordResponse code b s).txCount = s.txCount := rfl
@[simp] theorem recordResponse_nowCount (code : Word) (b : List Byte) (s : State) : (recordResponse code b s).nowCount = s.nowCount := rfl
@[simp] theorem recordResponse_result (code : Word) (b : List Byte) (s : State) : (recordResponse code b s).result = s.result := rfl

/-! ### `enterStreaming` -/

@[simp] theorem enterStreaming_phase (now : Nat) (s : State) : (enterStreaming now s).phase = .streaming := rfl
@[simp] theorem enterStreaming_lastCode (now : Nat) (s : State) : (enterStreaming now s).lastCode = s.lastCode := rfl
@[simp] theorem enterStreaming_respCode (now : Nat) (s : State) : (enterStreaming now s).respCode = s.respCode := rfl
@[simp] theorem enterStreaming_respStatus (now : Nat) (s : State) : (enterStreaming now s).respStatus = s.respStatus := rfl
@[simp] theorem enterStreaming_respLen (now : Nat) (s : State) : (enterStreaming now s).respLen = s.respLen := rfl
@[simp] theorem enterStreaming_sizeErr (now : Nat) (s : State) : (enterStreaming now s).sizeErr = s.sizeErr := rfl
@[simp] theorem enterStreaming_codeErr (now : Nat) (s : State) : (enterStreaming now s).codeErr = s.codeErr := rfl
@[simp] theorem enterStreaming_statusErr (now : Nat) (s : State) : (enterStreaming now s).statusErr = s.statusErr := rfl
@[simp] theorem enterStreaming_respValid (now : Nat) (s : State) : (enterStreaming now s).respValid = s.respValid := rfl
@[simp] theorem enterStreaming_protoErrCount (now : Nat) (s : State) : (enterStreaming now s).protoErrCount = s.protoErrCount := rfl
@[simp] theorem enterStreaming_lastCause (now : Nat) (s : State) : (enterStreaming now s).lastCause = s.lastCause := rfl
@[simp] theorem enterStreaming_residue (now : Nat) (s : State) : (enterStreaming now s).residue = [] := rfl
@[simp] theorem enterStreaming_pairCount (now : Nat) (s : State) : (enterStreaming now s).pairCount = 0 := rfl
@[simp] theorem enterStreaming_windowStart (now : Nat) (s : State) : (enterStreaming now s).windowStart = now := rfl
@[simp] theorem enterStreaming_lastRate (now : Nat) (s : State) : (enterStreaming now s).lastRate = s.lastRate := rfl
@[simp] theorem enterStreaming_tx (now : Nat) (s : State) : (enterStreaming now s).tx = s.tx := rfl
@[simp] theorem enterStreaming_rx (now : Nat) (s : State) : (enterStreaming now s).rx = s.rx := rfl
@[simp] theorem enterStreaming_out (now : Nat) (s : State) : (enterStreaming now s).out = s.out := rfl
@[simp] theorem enterStreaming_raw (now : Nat) (s : State) : (enterStreaming now s).raw = s.raw := rfl
@[simp] theorem enterStreaming_diag (now : Nat) (s : State) : (enterStreaming now s).diag = s.diag := rfl
@[simp] theorem enterStreaming_params (now : Nat) (s : State) : (enterStreaming now s).params = s.params := rfl
@[simp] theorem enterStreaming_agenda (now : Nat) (s : State) : (enterStreaming now s).agenda = s.agenda := rfl
@[simp] theorem enterStreaming_rxAnswers (now : Nat) (s : State) : (enterStreaming now s).rxAnswers = s.rxAnswers := rfl
@[simp] theorem enterStreaming_rxCount (now : Nat) (s : State) : (enterStreaming now s).rxCount = s.rxCount := rfl
@[simp] theorem enterStreaming_txAnswers (now : Nat) (s : State) : (enterStreaming now s).txAnswers = s.txAnswers := rfl
@[simp] theorem enterStreaming_txCount (now : Nat) (s : State) : (enterStreaming now s).txCount = s.txCount := rfl
@[simp] theorem enterStreaming_nowCount (now : Nat) (s : State) : (enterStreaming now s).nowCount = s.nowCount := rfl
@[simp] theorem enterStreaming_result (now : Nat) (s : State) : (enterStreaming now s).result = s.result := rfl

/-! ### `clearBlock` -/

@[simp] theorem clearBlock_phase (s : State) : (clearBlock s).phase = .idle := rfl
@[simp] theorem clearBlock_lastCode (s : State) : (clearBlock s).lastCode = 0 := rfl
@[simp] theorem clearBlock_respCode (s : State) : (clearBlock s).respCode = 0 := rfl
@[simp] theorem clearBlock_respStatus (s : State) : (clearBlock s).respStatus = 0 := rfl
@[simp] theorem clearBlock_respLen (s : State) : (clearBlock s).respLen = 0 := rfl
@[simp] theorem clearBlock_sizeErr (s : State) : (clearBlock s).sizeErr = false := rfl
@[simp] theorem clearBlock_codeErr (s : State) : (clearBlock s).codeErr = false := rfl
@[simp] theorem clearBlock_statusErr (s : State) : (clearBlock s).statusErr = false := rfl
@[simp] theorem clearBlock_respValid (s : State) : (clearBlock s).respValid = false := rfl
@[simp] theorem clearBlock_protoErrCount (s : State) : (clearBlock s).protoErrCount = 0 := rfl
@[simp] theorem clearBlock_lastCause (s : State) : (clearBlock s).lastCause = .none := rfl
@[simp] theorem clearBlock_residue (s : State) : (clearBlock s).residue = [] := rfl
@[simp] theorem clearBlock_pairCount (s : State) : (clearBlock s).pairCount = 0 := rfl
@[simp] theorem clearBlock_windowStart (s : State) : (clearBlock s).windowStart = 0 := rfl
@[simp] theorem clearBlock_lastRate (s : State) : (clearBlock s).lastRate = 0 := rfl
@[simp] theorem clearBlock_tx (s : State) : (clearBlock s).tx = s.tx := rfl
@[simp] theorem clearBlock_rx (s : State) : (clearBlock s).rx = s.rx := rfl
@[simp] theorem clearBlock_out (s : State) : (clearBlock s).out = s.out := rfl
@[simp] theorem clearBlock_raw (s : State) : (clearBlock s).raw = s.raw := rfl
@[simp] theorem clearBlock_diag (s : State) : (clearBlock s).diag = s.diag := rfl
@[simp] theorem clearBlock_params (s : State) : (clearBlock s).params = s.params := rfl
@[simp] theorem clearBlock_agenda (s : State) : (clearBlock s).agenda = s.agenda := rfl
@[simp] theorem clearBlock_rxAnswers (s : State) : (clearBlock s).rxAnswers = s.rxAnswers := rfl
@[simp] theorem clearBlock_rxCount (s : State) : (clearBlock s).rxCount = s.rxCount := rfl
@[simp] theorem clearBlock_txAnswers (s : State) : (clearBlock s).txAnswers = s.txAnswers := rfl
@[simp] theorem clearBlock_txCount (s : State) : (clearBlock s).txCount = s.txCount := rfl
@[simp] theorem clearBlock_nowCount (s : State) : (clearBlock s).nowCount = s.nowCount := rfl
@[simp] theorem clearBlock_result (s : State) : (clearBlock s).result = s.result := rfl

/-! ### `placeOp` -/

@[simp] theorem placeOp_phase (i : Instr) (s : State) : (placeOp i s).phase = s.phase := rfl
@[simp] theorem placeOp_lastCode (i : Instr) (s : State) : (placeOp i s).lastCode = s.lastCode := rfl
@[simp] theorem placeOp_respCode (i : Instr) (s : State) : (placeOp i s).respCode = s.respCode := rfl
@[simp] theorem placeOp_respStatus (i : Instr) (s : State) : (placeOp i s).respStatus = s.respStatus := rfl
@[simp] theorem placeOp_respLen (i : Instr) (s : State) : (placeOp i s).respLen = s.respLen := rfl
@[simp] theorem placeOp_sizeErr (i : Instr) (s : State) : (placeOp i s).sizeErr = s.sizeErr := rfl
@[simp] theorem placeOp_codeErr (i : Instr) (s : State) : (placeOp i s).codeErr = s.codeErr := rfl
@[simp] theorem placeOp_statusErr (i : Instr) (s : State) : (placeOp i s).statusErr = s.statusErr := rfl
@[simp] theorem placeOp_respValid (i : Instr) (s : State) : (placeOp i s).respValid = s.respValid := rfl
@[simp] theorem placeOp_protoErrCount (i : Instr) (s : State) : (placeOp i s).protoErrCount = s.protoErrCount := rfl
@[simp] theorem placeOp_lastCause (i : Instr) (s : State) : (placeOp i s).lastCause = s.lastCause := rfl
@[simp] theorem placeOp_residue (i : Instr) (s : State) : (placeOp i s).residue = s.residue := rfl
@[simp] theorem placeOp_pairCount (i : Instr) (s : State) : (placeOp i s).pairCount = s.pairCount := rfl
@[simp] theorem placeOp_windowStart (i : Instr) (s : State) : (placeOp i s).windowStart = s.windowStart := rfl
@[simp] theorem placeOp_lastRate (i : Instr) (s : State) : (placeOp i s).lastRate = s.lastRate := rfl
@[simp] theorem placeOp_tx (i : Instr) (s : State) : (placeOp i s).tx = s.tx := rfl
@[simp] theorem placeOp_rx (i : Instr) (s : State) : (placeOp i s).rx = s.rx := rfl
@[simp] theorem placeOp_out (i : Instr) (s : State) : (placeOp i s).out = s.out := rfl
@[simp] theorem placeOp_raw (i : Instr) (s : State) : (placeOp i s).raw = s.raw := rfl
@[simp] theorem placeOp_diag (i : Instr) (s : State) : (placeOp i s).diag = s.diag := rfl
@[simp] theorem placeOp_params (i : Instr) (s : State) : (placeOp i s).params = s.params := rfl
@[simp] theorem placeOp_agenda (i : Instr) (s : State) : (placeOp i s).agenda = i :: s.agenda := rfl
@[simp] theorem placeOp_rxAnswers (i : Instr) (s : State) : (placeOp i s).rxAnswers = s.rxAnswers := rfl
@[simp] theorem placeOp_rxCount (i : Instr) (s : State) : (placeOp i s).rxCount = s.rxCount := rfl
@[simp] theorem placeOp_txAnswers (i : Instr) (s : State) : (placeOp i s).txAnswers = s.txAnswers := rfl
@[simp] theorem placeOp_txCount (i : Instr) (s : State) : (placeOp i s).txCount = s.txCount := rfl
@[simp] theorem placeOp_nowCount (i : Instr) (s : State) : (placeOp i s).nowCount = s.nowCount := rfl
@[simp] theorem placeOp_result (i : Instr) (s : State) : (placeOp i s).result = s.result := rfl

/-! ### `placeResponse` -/

@[simp] theorem placeResponse_phase (b : List Byte) (s : State) : (placeResponse b s).phase = s.phase := rfl
@[simp] theorem placeResponse_lastCode (b : List Byte) (s : State) : (placeResponse b s).lastCode = s.lastCode := rfl
@[simp] theorem placeResponse_respCode (b : List Byte) (s : State) : (placeResponse b s).respCode = s.respCode := rfl
@[simp] theorem placeResponse_respStatus (b : List Byte) (s : State) : (placeResponse b s).respStatus = s.respStatus := rfl
@[simp] theorem placeResponse_respLen (b : List Byte) (s : State) : (placeResponse b s).respLen = s.respLen := rfl
@[simp] theorem placeResponse_sizeErr (b : List Byte) (s : State) : (placeResponse b s).sizeErr = s.sizeErr := rfl
@[simp] theorem placeResponse_codeErr (b : List Byte) (s : State) : (placeResponse b s).codeErr = s.codeErr := rfl
@[simp] theorem placeResponse_statusErr (b : List Byte) (s : State) : (placeResponse b s).statusErr = s.statusErr := rfl
@[simp] theorem placeResponse_respValid (b : List Byte) (s : State) : (placeResponse b s).respValid = s.respValid := rfl
@[simp] theorem placeResponse_protoErrCount (b : List Byte) (s : State) : (placeResponse b s).protoErrCount = s.protoErrCount := rfl
@[simp] theorem placeResponse_lastCause (b : List Byte) (s : State) : (placeResponse b s).lastCause = s.lastCause := rfl
@[simp] theorem placeResponse_residue (b : List Byte) (s : State) : (placeResponse b s).residue = s.residue := rfl
@[simp] theorem placeResponse_pairCount (b : List Byte) (s : State) : (placeResponse b s).pairCount = s.pairCount := rfl
@[simp] theorem placeResponse_windowStart (b : List Byte) (s : State) : (placeResponse b s).windowStart = s.windowStart := rfl
@[simp] theorem placeResponse_lastRate (b : List Byte) (s : State) : (placeResponse b s).lastRate = s.lastRate := rfl
@[simp] theorem placeResponse_tx (b : List Byte) (s : State) : (placeResponse b s).tx = s.tx := rfl
@[simp] theorem placeResponse_rx (b : List Byte) (s : State) : (placeResponse b s).rx = b ++ s.rx := rfl
@[simp] theorem placeResponse_out (b : List Byte) (s : State) : (placeResponse b s).out = s.out := rfl
@[simp] theorem placeResponse_raw (b : List Byte) (s : State) : (placeResponse b s).raw = s.raw := rfl
@[simp] theorem placeResponse_diag (b : List Byte) (s : State) : (placeResponse b s).diag = s.diag := rfl
@[simp] theorem placeResponse_params (b : List Byte) (s : State) : (placeResponse b s).params = s.params := rfl
@[simp] theorem placeResponse_agenda (b : List Byte) (s : State) : (placeResponse b s).agenda = s.agenda := rfl
@[simp] theorem placeResponse_rxAnswers (b : List Byte) (s : State) : (placeResponse b s).rxAnswers = .upTo b.length :: s.rxAnswers := rfl
@[simp] theorem placeResponse_rxCount (b : List Byte) (s : State) : (placeResponse b s).rxCount = s.rxCount := rfl
@[simp] theorem placeResponse_txAnswers (b : List Byte) (s : State) : (placeResponse b s).txAnswers = s.txAnswers := rfl
@[simp] theorem placeResponse_txCount (b : List Byte) (s : State) : (placeResponse b s).txCount = s.txCount := rfl
@[simp] theorem placeResponse_nowCount (b : List Byte) (s : State) : (placeResponse b s).nowCount = s.nowCount := rfl
@[simp] theorem placeResponse_result (b : List Byte) (s : State) : (placeResponse b s).result = s.result := rfl

/-! ### `reject` -/

@[simp] theorem reject_phase (op : Operation) (cause : Cause) (s : State) : (reject op cause s).phase = s.phase := rfl
@[simp] theorem reject_lastCode (op : Operation) (cause : Cause) (s : State) : (reject op cause s).lastCode = s.lastCode := rfl
@[simp] theorem reject_respCode (op : Operation) (cause : Cause) (s : State) : (reject op cause s).respCode = s.respCode := rfl
@[simp] theorem reject_respStatus (op : Operation) (cause : Cause) (s : State) : (reject op cause s).respStatus = s.respStatus := rfl
@[simp] theorem reject_respLen (op : Operation) (cause : Cause) (s : State) : (reject op cause s).respLen = s.respLen := rfl
@[simp] theorem reject_sizeErr (op : Operation) (cause : Cause) (s : State) : (reject op cause s).sizeErr = s.sizeErr := rfl
@[simp] theorem reject_codeErr (op : Operation) (cause : Cause) (s : State) : (reject op cause s).codeErr = s.codeErr := rfl
@[simp] theorem reject_statusErr (op : Operation) (cause : Cause) (s : State) : (reject op cause s).statusErr = s.statusErr := rfl
@[simp] theorem reject_respValid (op : Operation) (cause : Cause) (s : State) : (reject op cause s).respValid = s.respValid := rfl
@[simp] theorem reject_protoErrCount (op : Operation) (cause : Cause) (s : State) : (reject op cause s).protoErrCount = s.protoErrCount := rfl
@[simp] theorem reject_lastCause (op : Operation) (cause : Cause) (s : State) : (reject op cause s).lastCause = cause := rfl
@[simp] theorem reject_residue (op : Operation) (cause : Cause) (s : State) : (reject op cause s).residue = s.residue := rfl
@[simp] theorem reject_pairCount (op : Operation) (cause : Cause) (s : State) : (reject op cause s).pairCount = s.pairCount := rfl
@[simp] theorem reject_windowStart (op : Operation) (cause : Cause) (s : State) : (reject op cause s).windowStart = s.windowStart := rfl
@[simp] theorem reject_lastRate (op : Operation) (cause : Cause) (s : State) : (reject op cause s).lastRate = s.lastRate := rfl
@[simp] theorem reject_tx (op : Operation) (cause : Cause) (s : State) : (reject op cause s).tx = s.tx := rfl
@[simp] theorem reject_rx (op : Operation) (cause : Cause) (s : State) : (reject op cause s).rx = s.rx := rfl
@[simp] theorem reject_out (op : Operation) (cause : Cause) (s : State) : (reject op cause s).out = s.out := rfl
@[simp] theorem reject_raw (op : Operation) (cause : Cause) (s : State) : (reject op cause s).raw = s.raw := rfl
@[simp] theorem reject_diag (op : Operation) (cause : Cause) (s : State) : (reject op cause s).diag = s.diag ++ [.rejected op cause] := rfl
@[simp] theorem reject_params (op : Operation) (cause : Cause) (s : State) : (reject op cause s).params = s.params := rfl
@[simp] theorem reject_agenda (op : Operation) (cause : Cause) (s : State) : (reject op cause s).agenda = s.agenda := rfl
@[simp] theorem reject_rxAnswers (op : Operation) (cause : Cause) (s : State) : (reject op cause s).rxAnswers = s.rxAnswers := rfl
@[simp] theorem reject_rxCount (op : Operation) (cause : Cause) (s : State) : (reject op cause s).rxCount = s.rxCount := rfl
@[simp] theorem reject_txAnswers (op : Operation) (cause : Cause) (s : State) : (reject op cause s).txAnswers = s.txAnswers := rfl
@[simp] theorem reject_txCount (op : Operation) (cause : Cause) (s : State) : (reject op cause s).txCount = s.txCount := rfl
@[simp] theorem reject_nowCount (op : Operation) (cause : Cause) (s : State) : (reject op cause s).nowCount = s.nowCount := rfl
@[simp] theorem reject_result (op : Operation) (cause : Cause) (s : State) : (reject op cause s).result = s.result := rfl

/-! ### `raiseFraming` -/

@[simp] theorem raiseFraming_phase (k : Nat) (s : State) : (raiseFraming k s).phase = s.phase := rfl
@[simp] theorem raiseFraming_lastCode (k : Nat) (s : State) : (raiseFraming k s).lastCode = s.lastCode := rfl
@[simp] theorem raiseFraming_respCode (k : Nat) (s : State) : (raiseFraming k s).respCode = s.respCode := rfl
@[simp] theorem raiseFraming_respStatus (k : Nat) (s : State) : (raiseFraming k s).respStatus = s.respStatus := rfl
@[simp] theorem raiseFraming_respLen (k : Nat) (s : State) : (raiseFraming k s).respLen = s.respLen := rfl
@[simp] theorem raiseFraming_sizeErr (k : Nat) (s : State) : (raiseFraming k s).sizeErr = s.sizeErr := rfl
@[simp] theorem raiseFraming_codeErr (k : Nat) (s : State) : (raiseFraming k s).codeErr = s.codeErr := rfl
@[simp] theorem raiseFraming_statusErr (k : Nat) (s : State) : (raiseFraming k s).statusErr = s.statusErr := rfl
@[simp] theorem raiseFraming_respValid (k : Nat) (s : State) : (raiseFraming k s).respValid = s.respValid := rfl
@[simp] theorem raiseFraming_protoErrCount (k : Nat) (s : State) : (raiseFraming k s).protoErrCount = s.protoErrCount := rfl
@[simp] theorem raiseFraming_lastCause (k : Nat) (s : State) : (raiseFraming k s).lastCause = .framingDiscard := rfl
@[simp] theorem raiseFraming_residue (k : Nat) (s : State) : (raiseFraming k s).residue = s.residue := rfl
@[simp] theorem raiseFraming_pairCount (k : Nat) (s : State) : (raiseFraming k s).pairCount = s.pairCount := rfl
@[simp] theorem raiseFraming_windowStart (k : Nat) (s : State) : (raiseFraming k s).windowStart = s.windowStart := rfl
@[simp] theorem raiseFraming_lastRate (k : Nat) (s : State) : (raiseFraming k s).lastRate = s.lastRate := rfl
@[simp] theorem raiseFraming_tx (k : Nat) (s : State) : (raiseFraming k s).tx = s.tx := rfl
@[simp] theorem raiseFraming_rx (k : Nat) (s : State) : (raiseFraming k s).rx = s.rx := rfl
@[simp] theorem raiseFraming_out (k : Nat) (s : State) : (raiseFraming k s).out = s.out := rfl
@[simp] theorem raiseFraming_raw (k : Nat) (s : State) : (raiseFraming k s).raw = s.raw := rfl
@[simp] theorem raiseFraming_diag (k : Nat) (s : State) : (raiseFraming k s).diag = s.diag ++ [.framingDiscard k] := rfl
@[simp] theorem raiseFraming_params (k : Nat) (s : State) : (raiseFraming k s).params = s.params := rfl
@[simp] theorem raiseFraming_agenda (k : Nat) (s : State) : (raiseFraming k s).agenda = s.agenda := rfl
@[simp] theorem raiseFraming_rxAnswers (k : Nat) (s : State) : (raiseFraming k s).rxAnswers = s.rxAnswers := rfl
@[simp] theorem raiseFraming_rxCount (k : Nat) (s : State) : (raiseFraming k s).rxCount = s.rxCount := rfl
@[simp] theorem raiseFraming_txAnswers (k : Nat) (s : State) : (raiseFraming k s).txAnswers = s.txAnswers := rfl
@[simp] theorem raiseFraming_txCount (k : Nat) (s : State) : (raiseFraming k s).txCount = s.txCount := rfl
@[simp] theorem raiseFraming_nowCount (k : Nat) (s : State) : (raiseFraming k s).nowCount = s.nowCount := rfl
@[simp] theorem raiseFraming_result (k : Nat) (s : State) : (raiseFraming k s).result = s.result := rfl

end Sys2Proof.Machine
end

