-- ==== Sys2Proof/Laws/Ops.lean ====
section
/-! SUPPORT. What each shared operation can do, said once: the channel primitives, the errors, GUARD, SEND and VALIDATE, the
shape of a command, and the parts of a streaming iteration. -/

namespace Sys2Proof.Machine

/-! ### Channels -/

theorem rxRead_of_fail {s : State} (n : Nat) (h : s.nextRx = .fail) : rxRead n s = (.fail, s.afterRx 0) := by
  simp [rxRead, h]

theorem rxRead_of_upTo {s : State} {k : Nat} (n : Nat) (h : s.nextRx = .upTo k) :
    rxRead n s = (.bytes (s.arrived.take (min k n)), s.afterRx (min k n)) := by
  simp [rxRead, h]

theorem txWrite_of_fail {s : State} (b : List Byte) (h : s.nextTx = .fail) : txWrite b s = (false, s.afterTx []) := by
  simp [txWrite, h]

theorem txWrite_of_ok {s : State} (b : List Byte) (h : s.nextTx = .ok) : txWrite b s = (true, s.afterTx b) := by
  simp [txWrite, h]

/-- The read answer depends on the oracle's script and count only. -/
theorem nextRx_congr {s t : State} (ha : t.rxAnswers = s.rxAnswers) (hc : t.rxCount = s.rxCount) :
    t.nextRx = s.nextRx := by
  simp [State.nextRx, ha, hc]

/-- The bytes at the head of RX depend on RX and the oracle's script and count only. -/
theorem arrived_congr {s t : State} (hr : t.rx = s.rx) (ha : t.rxAnswers = s.rxAnswers)
    (hc : t.rxCount = s.rxCount) : t.arrived = s.arrived := by
  simp [State.arrived, hr, ha, hc]

/-! ### Errors -/

/-- The event a residue about to be dropped leaves on DIAG. -/
theorem reportDiscard_eq (s : State) :
    reportDiscard s =
      { s with diag := s.diag ++ if s.residue = [] then [] else [.framingDiscard s.residue.length] } := by
  unfold reportDiscard
  by_cases h : s.residue = []
  · rw [if_pos h, if_neg (by simp [h]), List.append_nil]
  · rw [if_neg h, if_pos (List.length_pos_iff.2 h)]
    rfl

theorem raiseTransport_eq (dir : Direction) (s : State) :
    raiseTransport dir s =
      { s with
        residue := []
        phase := .fault
        lastCause := .transport
        diag := s.diag ++ (if s.residue = [] then [] else [.framingDiscard s.residue.length]) ++
          [.transportError dir] } := by
  simp [raiseTransport, reportDiscard_eq, diagEmit]

theorem raiseProtocol_eq (code : Word) (len : Nat) (sizeErr codeErr statusErr : Bool) (s : State) :
    raiseProtocol code len sizeErr codeErr statusErr s =
      { s with
        protoErrCount := s.protoErrCount + 1
        lastCause := protoCause sizeErr codeErr
        diag := s.diag ++ [.protocolError code len (if len = 8 then some s.respCode else none)
          (if len = 8 then some s.respStatus else none) sizeErr codeErr statusErr] } := rfl

/-! ### GUARD, SEND and VALIDATE -/

theorem guardCause_eq_none_iff (ph : Phase) : guardCause ph = none ↔ accepts ph := by
  cases ph <;> simp [guardCause, accepts]

theorem send_of_fail {s : State} (code : Word) (args : List Word) (h : s.nextTx = .fail) :
    send code args s = (false, raiseTransport .write (s.afterTx [])) := by
  simp [send, txWrite_of_fail _ h]

theorem send_of_ok {s : State} (code : Word) (args : List Word) (h : s.nextTx = .ok) :
    send code args s = (true, { s.afterTx (frame code args) with lastCode := code }) := by
  simp [send, txWrite_of_ok _ h]

theorem validate_of_fail {s : State} (code : Word) (h : s.nextRx = .fail) :
    validate code s = raiseTransport .read (s.afterRx 0) := by
  simp [validate, rxRead_of_fail _ h]

theorem validate_of_upTo {s : State} {k : Nat} (code : Word) (h : s.nextRx = .upTo k) :
    validate code s =
      reportResponse code (s.arrived.take (min k 8)).length
        (recordResponse code (s.arrived.take (min k 8)) (s.afterRx (min k 8))) := by
  simp [validate, rxRead_of_upTo _ h, Config.respLen]

/-- Every command that reads a response is `command` of its row. -/
theorem exec_of_commandRow {s : State} {i : Instr} {row : CommandRow} (h : commandRow s.params i = some row) :
    exec i s = .next (command row.op row.code row.args row.target s) := by
  cases i <;> simp only [commandRow, Option.some.injEq, reduceCtorEq] at h <;> subst h <;> rfl

theorem command_of_rejected {s : State} {cause : Cause} (row : CommandRow) (h : guardCause s.phase = some cause) :
    command row.op row.code row.args row.target s = reject row.op cause s := by
  simp [command, h]

theorem command_of_failed_write {s : State} (row : CommandRow) (hp : accepts s.phase) (h : s.nextTx = .fail) :
    command row.op row.code row.args row.target s = raiseTransport .write (s.afterTx []) := by
  simp [command, (guardCause_eq_none_iff _).2 hp, send_of_fail _ _ h]

theorem command_of_sent {s : State} (row : CommandRow) (hp : accepts s.phase) (h : s.nextTx = .ok) :
    command row.op row.code row.args row.target s =
      validate row.code
        { s.afterTx (frame row.code row.args) with lastCode := row.code, phase := row.target } := by
  simp [command, (guardCause_eq_none_iff _).2 hp, send_of_ok _ _ h]

/-- All that VALIDATE can do: a TransportError, or the response recorded and reported. -/
theorem validate_cases (code : Word) (s : State) :
    (s.nextRx = .fail ∧ validate code s = raiseTransport .read (s.afterRx 0)) ∨
    ∃ k b, s.nextRx = .upTo k ∧ b = s.arrived.take (min k 8) ∧
      validate code s = reportResponse code b.length (recordResponse code b (s.afterRx (min k 8))) := by
  cases h : s.nextRx with
  | fail => exact .inl ⟨rfl, validate_of_fail code h⟩
  | upTo k => exact .inr ⟨k, _, rfl, rfl, validate_of_upTo code h⟩

/-- All that a command which reads a response can do: a rejection, a TransportError of the write, or VALIDATE after SEND. -/
theorem command_cases (row : CommandRow) (s : State) :
    (∃ cause, guardCause s.phase = some cause ∧
      command row.op row.code row.args row.target s = reject row.op cause s) ∨
    (accepts s.phase ∧ s.nextTx = .fail ∧
      command row.op row.code row.args row.target s = raiseTransport .write (s.afterTx [])) ∨
    (accepts s.phase ∧ s.nextTx = .ok ∧
      command row.op row.code row.args row.target s =
        validate row.code { s.afterTx (frame row.code row.args) with lastCode := row.code, phase := row.target }) := by
  cases hg : guardCause s.phase with
  | some cause => exact .inl ⟨cause, rfl, command_of_rejected row hg⟩
  | none =>
    have hp := (guardCause_eq_none_iff _).1 hg
    cases ht : s.nextTx with
    | fail => exact .inr (.inl ⟨hp, rfl, command_of_failed_write row hp ht⟩)
    | ok => exact .inr (.inr ⟨hp, rfl, command_of_sent row hp ht⟩)

/-- All that READ_ADC can do: a rejection, a TransportError of the write, or entry to STREAMING after SEND. -/
theorem execReadAdc_cases (now : Nat) (s : State) :
    (∃ cause, guardCause s.phase = some cause ∧ execReadAdc now s = .next (reject .readAdc cause s)) ∨
    (accepts s.phase ∧ s.nextTx = .fail ∧ execReadAdc now s = .next (raiseTransport .write (s.afterTx []))) ∨
    (accepts s.phase ∧ s.nextTx = .ok ∧
      execReadAdc now s = .next (enterStreaming now
        { s.afterTx (frame s.params.codeReadAdc []) with lastCode := s.params.codeReadAdc })) := by
  cases hg : guardCause s.phase with
  | some cause => exact .inl ⟨cause, rfl, by simp [execReadAdc, hg]⟩
  | none =>
    have hp := (guardCause_eq_none_iff _).1 hg
    cases ht : s.nextTx with
    | fail => exact .inr (.inl ⟨hp, rfl, by simp [execReadAdc, hg, send_of_fail _ _ ht]⟩)
    | ok => exact .inr (.inr ⟨hp, rfl, by simp [execReadAdc, hg, send_of_ok _ _ ht]⟩)

/-! ### The streaming iteration -/

theorem emitPairs_eq (buf : List Byte) (s : State) : emitPairs buf s = { s with out := s.out ++ sc16Of buf } := by
  unfold emitPairs
  split
  · rfl
  · have h : pairsOf buf = [] := List.eq_nil_of_length_eq_zero (by omega)
    simp [sc16Of, h]

theorem tapChunk_eq (chunk : List Byte) (s : State) :
    tapChunk chunk s = { s with raw := if s.params.rawTapEn then s.raw ++ chunk else s.raw } := by
  unfold tapChunk
  cases h : s.params.rawTapEn <;> cases chunk <;> simp [rawWrite]

theorem absorbChunk_eq (chunk : List Byte) (s : State) :
    absorbChunk chunk s =
      { s with
        residue := restOf (s.residue ++ chunk)
        out := s.out ++ sc16Of (s.residue ++ chunk)
        raw := if s.params.rawTapEn then s.raw ++ chunk else s.raw
        pairCount := s.pairCount + BitVec.ofNat 32 (pairsOf (s.residue ++ chunk)).length } := by
  simp [absorbChunk, emitPairs_eq, tapChunk_eq]

theorem throughputCheck_of_lt {s : State} {now : Nat} (h : now < s.windowStart + s.params.reportInterval) :
    throughputCheck now s = s := by
  simp [throughputCheck, Nat.not_le.2 h]

theorem throughputCheck_of_le {s : State} {now : Nat} (h : s.windowStart + s.params.reportInterval ≤ now) :
    throughputCheck now s =
      { s with
        lastRate := BitVec.ofNat 32 (s.pairCount.toNat * s.params.tickHz / (now - s.windowStart))
        diag := s.diag ++ [.report (s.pairCount.toNat * s.params.tickHz / (now - s.windowStart))]
        pairCount := 0
        windowStart := now } := by
  simp [throughputCheck, h, diagEmit]

theorem streamIteration_of_fail {s : State} (now : Nat) (h : s.nextRx = .fail) :
    streamIteration now s = raiseTransport .read (s.afterRx 0) := by
  simp [streamIteration, rxRead_of_fail _ h]

theorem streamIteration_of_upTo {s : State} {k : Nat} (now : Nat) (h : s.nextRx = .upTo k) :
    streamIteration now s =
      throughputCheck now
        (absorbChunk (s.arrived.take (min k s.params.chunkSize)) (s.afterRx (min k s.params.chunkSize))) := by
  simp [streamIteration, rxRead_of_upTo _ h]

/-- All that an iteration can do: a TransportError, or the chunk absorbed and the throughput checked. -/
theorem streamIteration_cases (now : Nat) (s : State) :
    (s.nextRx = .fail ∧ streamIteration now s = raiseTransport .read (s.afterRx 0)) ∨
    ∃ k, s.nextRx = .upTo k ∧
      streamIteration now s =
        throughputCheck now
          (absorbChunk (s.arrived.take (min k s.params.chunkSize)) (s.afterRx (min k s.params.chunkSize))) := by
  cases h : s.nextRx with
  | fail => exact .inl ⟨rfl, streamIteration_of_fail now h⟩
  | upTo k => exact .inr ⟨k, rfl, streamIteration_of_upTo now h⟩

theorem execStreamChunk_next {now : Nat} {s t : State} (h : execStreamChunk now s = .next t) :
    s.phase = .streaming ∧ t = streamIteration now s := by
  unfold execStreamChunk at h
  split at h
  · cases h
    exact ⟨‹_›, rfl⟩
  · cases h

/-! ### The step -/

/-- All that a step with a next state can do: an operation of the agenda, an iteration of the engine's own, or wait. -/
theorem step_cases {s t : State} (h : step s = .next t) :
    (∃ i rest, s.agenda = i :: rest ∧ exec i { s with agenda := rest } = .next t) ∨
    (s.agenda = [] ∧ s.phase = .streaming ∧
      exec (.streamChunk (Config.freeNow s.nowCount)) { s with nowCount := s.nowCount + 1 } = .next t) ∨
    (s.agenda = [] ∧ s.phase ≠ .streaming ∧ t = s) := by
  unfold step nextTurn at h
  split at h
  · cases ha : s.agenda with
    | cons i rest =>
      simp only [ha] at h
      exact .inl ⟨i, rest, rfl, h⟩
    | nil =>
      simp only [ha] at h
      by_cases hp : s.phase = .streaming
      · simp only [if_pos hp] at h
        exact .inr (.inl ⟨rfl, hp, h⟩)
      · simp only [if_neg hp] at h
        cases h
        exact .inr (.inr ⟨rfl, hp, rfl⟩)
  · cases h

/-! ### The decode of a buffer in two parts -/

/-- Decoding a buffer in two parts, the first part's rest carried over, gives the pairs of the whole. -/
theorem pairsOf_append (a b : List Byte) : pairsOf (a ++ b) = pairsOf a ++ pairsOf (restOf a ++ b) := by
  induction a using pairsOf.induct with
  | case1 b0 b1 b2 rest ih => simp [pairsOf, restOf, ih]
  | case2 short h =>
    match short, h with
    | [], _ => simp [pairsOf, restOf]
    | [_], _ => simp [pairsOf, restOf]
    | [_, _], _ => simp [pairsOf, restOf]
    | b0 :: b1 :: b2 :: rest, h => exact absurd rfl (h b0 b1 b2 rest)

/-- The rest of a buffer is the rest of its second part after the first part's rest. -/
theorem restOf_append (a b : List Byte) : restOf (a ++ b) = restOf (restOf a ++ b) := by
  induction a using pairsOf.induct with
  | case1 b0 b1 b2 rest ih => simp [restOf, ih]
  | case2 short h =>
    match short, h with
    | [], _ => simp [restOf]
    | [_], _ => simp [restOf]
    | [_, _], _ => simp [restOf]
    | b0 :: b1 :: b2 :: rest, h => exact absurd rfl (h b0 b1 b2 rest)

theorem sc16Of_append (a b : List Byte) : sc16Of (a ++ b) = sc16Of a ++ sc16Of (restOf a ++ b) := by
  simp [sc16Of, pairsOf_append a b]

end Sys2Proof.Machine
end

