-- ==== Sys2Proof/Laws/PerInstr.lean ====
section
/-! SUPPORT. One statement per constructor of Instr: the format and byte count of its encoding are those of the operation map
(30_encoding.md R83, R92), under every assignment of the parameters, and it is well-formed. -/

namespace Sys2Proof.Laws.EncodedForm

/-- The formats of R80, VALIDATE's request carrying no bytes of its own. -/
inductive Format where
  | req
  | sc12
  | sc16
  | named
deriving DecidableEq, Repr

/-- The format and the bytes of an encoding. -/
def formOf : Encoded → Option (Format × Nat)
  | .req b => some (.req, b.length)
  | .resp _ => none
  | .sc12 b => some (.sc12, b.length)
  | .sc16 b => some (.sc16, b.length)
  | .named _ => some (.named, 0)

/-- The format and byte count the tables of R83, R86, R87 and R92 give an operation. -/
def tableForm : Instr → Format × Nat
  | .cfgGpioPin _ _ _ => (.req, 16)
  | .cfgGpioPinValue _ _ _ _ => (.req, 20)
  | .cfgDma => (.req, 4)
  | .cfgAdc => (.req, 4)
  | .triggerAdc => (.req, 4)
  | .readAdc _ => (.req, 4)
  | .validate => (.named, 0)
  | .unpack _ _ _ => (.sc12, 3)
  | .pack16 _ _ => (.sc16, 4)
  | .streamChunk _ => (.named, 0)
  | .cancel => (.named, 0)
  | .reset => (.named, 0)

/-- An operation is well-formed and its encoding has the form of its row. -/
def Statement (i : Instr) : Prop :=
  i.wf = true ∧ ∀ p : Params, formOf (encode p i) = some (tableForm i)

theorem cfgGpioPin (group pin mode : Word) : Statement (.cfgGpioPin group pin mode) :=
  ⟨rfl, fun _ => rfl⟩

theorem cfgGpioPinValue (group pin mode value : Word) : Statement (.cfgGpioPinValue group pin mode value) :=
  ⟨rfl, fun _ => rfl⟩

theorem cfgDma : Statement .cfgDma :=
  ⟨rfl, fun _ => rfl⟩

theorem cfgAdc : Statement .cfgAdc :=
  ⟨rfl, fun _ => rfl⟩

theorem triggerAdc : Statement .triggerAdc :=
  ⟨rfl, fun _ => rfl⟩

theorem readAdc (now : Nat) : Statement (.readAdc now) :=
  ⟨rfl, fun _ => rfl⟩

theorem validate : Statement .validate :=
  ⟨rfl, fun _ => rfl⟩

theorem unpack (b0 b1 b2 : Byte) : Statement (.unpack b0 b1 b2) :=
  ⟨rfl, fun _ => rfl⟩

theorem pack16 (i q : Sample) : Statement (.pack16 i q) :=
  ⟨rfl, fun _ => rfl⟩

theorem streamChunk (now : Nat) : Statement (.streamChunk now) :=
  ⟨rfl, fun _ => rfl⟩

theorem cancel : Statement .cancel :=
  ⟨rfl, fun _ => rfl⟩

theorem reset : Statement .reset :=
  ⟨rfl, fun _ => rfl⟩

end Sys2Proof.Laws.EncodedForm
end

