-- ==== Sys2Proof/Tests/Slice0.lean ====
section
/-! SUPPORT. Tests of the model with results from the spec (95_test_vectors.md and the examples of the rules), the smoke test
of WellFormed, the decoding of words written out from the encodings, and for every obligation with hypotheses a state and
operands that meet them. -/

open Sys2Proof Sys2Proof.Machine

namespace Sys2Proof.Tests

/-! ### Helpers -/

/-- A view of the next state, if there is one. -/
def view {α : Type} (o : Host.Outcome State Fault Refusal) (f : State → α) : Option α :=
  match o with
  | .next t => some (f t)
  | .fault _ => none
  | .refused _ => none

/-- After reset, in a phase, with RX holding bytes of which the next read gets up to `k`, and the next write done. -/
def ready (ph : Phase) (rx : List Byte) (k : Nat) : State :=
  { State.reset with phase := ph, rx := rx, rxAnswers := [.upTo k], txAnswers := [.ok] }

/-- The same with a failed read. -/
def readFails (ph : Phase) (residue : List Byte) : State :=
  { State.reset with phase := ph, residue := residue, rxAnswers := [.fail], txAnswers := [.ok] }

/-- The same with a failed write. -/
def writeFails (ph : Phase) : State :=
  { State.reset with phase := ph, txAnswers := [.fail] }

/-- In STREAMING with a residue and a chunk that arrives whole. -/
def streaming (residue chunk : List Byte) : State :=
  { ready .streaming chunk chunk.length with residue := residue }

/-! ### WellFormed: an ill-formed term for each check -/

theorem test_params_wf : Params.atReset.wf = true := by decide
theorem test_chunk_size_zero_refused : ({ Params.atReset with chunkSize := 0 } : Params).wf = false := by decide
theorem test_tick_rate_zero_refused : ({ Params.atReset with tickHz := 0 } : Params).wf = false := by decide
theorem test_interval_zero_refused : ({ Params.atReset with reportInterval := 0 } : Params).wf = false := by decide
theorem test_equal_codes_refused : ({ Params.atReset with codeReadAdc := 2 } : Params).wf = false := by decide
theorem test_four_args_allowed : argsWf [1, 2, 3, 4] = true := by decide
theorem test_five_args_refused : argsWf [1, 2, 3, 4, 5] = false := by decide

/-! ### Decoding of words written out from the encodings (R81, R84, R85, R86, R87; vectors F1 to F7, U3, U9) -/

theorem test_decode_cfgGpioPin : decode Params.atReset 0 (.req [1, 0, 0, 0, 2, 0, 0, 0, 5, 0, 0, 0, 3, 0, 0, 0]) =
    .ok (.cfgGpioPin 2 5 3) := by decide
theorem test_decode_cfgGpioPinValue :
    decode Params.atReset 0 (.req [1, 0, 0, 0, 0xFF, 0xFF, 0xFF, 0xFF, 0x78, 0x56, 0x34, 0x12, 0, 0, 0, 0, 0, 0, 0, 0x80]) =
      .ok (.cfgGpioPinValue 0xFFFFFFFF 0x12345678 0 0x80000000) := by decide
theorem test_decode_cfgDma : decode Params.atReset 0 (.req [2, 0, 0, 0]) = .ok .cfgDma := by decide
theorem test_decode_cfgAdc : decode Params.atReset 0 (.req [3, 0, 0, 0]) = .ok .cfgAdc := by decide
theorem test_decode_triggerAdc : decode Params.atReset 0 (.req [4, 0, 0, 0]) = .ok .triggerAdc := by decide
theorem test_decode_readAdc : decode Params.atReset 500 (.req [5, 0, 0, 0]) = .ok (.readAdc 500) := by decide
theorem test_decode_validate : decode Params.atReset 0 (.resp [2, 0, 0, 0, 1, 0, 0, 0]) = .ok .validate := by decide
theorem test_decode_unpack : decode Params.atReset 0 (.sc12 [0xAB, 0xCD, 0xEF]) = .ok (.unpack 0xAB 0xCD 0xEF) := by decide
theorem test_decode_pack16 : decode Params.atReset 0 (.sc16 [0xBC, 0x0A, 0xEF, 0x0D]) = .ok (.pack16 0xABC 0xDEF) := by
  decide
theorem test_decode_streamChunk : decode Params.atReset 9 (.named .streamChunk) = .ok (.streamChunk 9) := by decide
theorem test_decode_cancel : decode Params.atReset 0 (.named .cancel) = .ok .cancel := by decide
theorem test_decode_reset : decode Params.atReset 0 (.named .reset) = .ok .reset := by decide
theorem test_big_endian_code_refused : decode Params.atReset 0 (.req [0, 0, 0, 2]) = .error .unknownCode := by decide
theorem test_dma_with_argument_refused : decode Params.atReset 0 (.req [2, 0, 0, 0, 1, 0, 0, 0]) = .error .badArgCount := by
  decide
theorem test_parse_inverts_f7 :
    parse [1, 0, 0, 0, 0xFF, 0xFF, 0xFF, 0xFF, 0x78, 0x56, 0x34, 0x12, 0, 0, 0, 0, 0, 0, 0, 0x80] =
      some (1, [0xFFFFFFFF, 0x12345678, 0, 0x80000000]) := by decide
theorem test_table_row_without_bits : decodeTableWord 0 0 = none := by decide
theorem test_table_response : decodeTableWord 64 0x0000000100000002 = some .validate := by decide
theorem test_pack12 : pack12 0xABC 0xDEF = (0xAB, 0xCD, 0xEF) ∧ pack12 0x001 0x100 = (0x00, 0x11, 0x00) := by decide

/-! ### The operations, one step each -/

/-- F6: "a present value of 0 is sent", and the 16-byte form F5. -/
theorem test_cfgGpioPinValue_frame :
    view (exec (.cfgGpioPinValue 2 5 3 0) (ready .idle [1, 0, 0, 0, 0, 0, 0, 0] 8)) (fun t => (t.tx, t.phase)) =
      some ([1, 0, 0, 0, 2, 0, 0, 0, 5, 0, 0, 0, 3, 0, 0, 0, 0, 0, 0, 0], .configuring) := by decide

theorem test_cfgGpioPin_frame :
    view (exec (.cfgGpioPin 2 5 3) (ready .idle [1, 0, 0, 0, 0, 0, 0, 0] 8)) (fun t => (t.tx, t.lastCode)) =
      some ([1, 0, 0, 0, 2, 0, 0, 0, 5, 0, 0, 0, 3, 0, 0, 0], 1) := by decide

/-- V4: both comparisons fail; STATUS reads 0x02080381 and one event is appended. -/
theorem test_cfgDma_v4 :
    view (exec .cfgDma (ready .idle [3, 0, 0, 0, 0xFF, 0xFF, 0xFF, 0xFF] 8))
        (fun t => (observe t 0, t.protoErrCount, t.diag)) =
      some (0x02080381, 1, [.protocolError 2 8 (some 3) (some 0xFFFFFFFF) false true true]) := by decide

/-- V5: five bytes; STATUS reads 0x01050241, RESP_CODE is unchanged and the bytes are consumed. -/
theorem test_cfgDma_v5 :
    view (exec .cfgDma (ready .idle [2, 0, 0, 0, 0] 8)) (fun t => (observe t 0, t.respCode, t.rx)) =
      some (0x01050241, 0, []) := by decide

/-- P1 line 4: status 7, the phase stays CONFIGURING. -/
theorem test_cfgAdc_status_error :
    view (exec .cfgAdc (ready .configuring [3, 0, 0, 0, 7, 0, 0, 0] 8)) (fun t => (t.phase, t.lastCause, t.diag)) =
      some (.configuring, .protoStatus, [.protocolError 3 8 (some 3) (some 7) false false true]) := by decide

/-- P4 line 1: three bytes of a response arrive in time and the other five stay in RX. -/
theorem test_cfgAdc_late_bytes_stay :
    view (exec .cfgAdc (ready .idle [3, 0, 0, 0, 0, 0, 0, 0] 3)) (fun t => (t.respLen, t.rx)) =
      some (3, [0, 0, 0, 0, 0]) := by decide

/-- P3: stream bytes read as a response. -/
theorem test_triggerAdc_stream_bytes :
    view (exec .triggerAdc (ready .idle [0xAB, 0xCD, 0xEF, 0xAB, 0xCD, 0xEF, 0xAB, 0xCD] 8))
        (fun t => (t.phase, t.respCode, t.respStatus, t.lastCause)) =
      some (.triggered, 0xABEFCDAB, 0xCDABEFCD, .protoCode) := by decide

/-- P3: rejected in FAULT with nothing written. -/
theorem test_triggerAdc_rejected :
    view (exec .triggerAdc (ready .fault [] 8)) (fun t => (t.tx, t.diag)) =
      some ([], [.rejected .triggerAdc .cmdInFault]) := by decide

/-- The example of R124. -/
theorem test_readAdc_starts :
    view (exec (.readAdc 500) (ready .triggered [] 0)) (fun t => (t.tx, t.phase, t.windowStart)) =
      some ([5, 0, 0, 0], .streaming, 500) := by decide

/-- V10's rule for READ_ADC: a failed write leaves LAST_CODE and TX. -/
theorem test_readAdc_write_fails :
    view (exec (.readAdc 0) (writeFails .idle)) (fun t => (t.tx, t.lastCode, observe t 0)) =
      some ([], 0, 0x06000004) := by decide

/-- V8, the byte order of the echoed code. -/
theorem test_validate_byte_order :
    view (exec .validate { ready .configuring [0, 0, 0, 2, 0, 0, 0, 0] 8 with lastCode := 2 })
        (fun t => (t.respCode, t.codeErr, t.statusErr)) = some (0x02000000, true, false) := by decide

/-- V7: a failed read leaves the response fields; STATUS reads 0x06000004. -/
theorem test_validate_read_fails :
    view (exec .validate (readFails .configuring [])) (fun t => (observe t 0, t.diag)) =
      some (0x06000004, [.transportError .read]) := by decide

/-- U8 and U9. -/
theorem test_unpack_u8 : view (exec (.unpack 0x12 0x34 0x56) State.reset) State.result = some (.pair 0x123 0x456) := by decide
theorem test_unpack_u6 : view (exec (.unpack 0x00 0x0F 0x00) State.reset) State.result = some (.pair 0x000 0xF00) := by decide
theorem test_pack16_u9 : view (exec (.pack16 0x800 0x800) State.reset) State.result = some (.bytes [0, 8, 0, 8]) := by decide
theorem test_pack16_u3 : view (exec (.pack16 0xABC 0xDEF) State.reset) State.result = some (.bytes [0xBC, 0x0A, 0xEF, 0x0D]) := by
  decide

/-- P2's last line: two pairs from the residue and the chunk, RES [00], and REPORT(3). -/
theorem test_streamChunk_p2 :
    view (exec (.streamChunk 1000) { streaming [0x12, 0x34] [0x56, 0xFF, 0xFF, 0xFF, 0] with pairCount := 1 })
        (fun t => (t.out, t.raw, t.residue, t.pairCount, t.diag)) =
      some ([0x23, 1, 0x56, 4, 0xFF, 0x0F, 0xFF, 0x0F], [0x56, 0xFF, 0xFF, 0xFF, 0], [0], 0, [.report 3]) := by decide

/-- S10: FRAMING_DISCARD(2) and then TRANSPORT_ERROR(READ). -/
theorem test_streamChunk_s10 :
    view (exec (.streamChunk 0) (readFails .streaming [0x12, 0x34])) (fun t => (t.phase, t.residue, t.diag)) =
      some (.fault, [], [.framingDiscard 2, .transportError .read]) := by decide

/-- S12 (the count wraps) with S13's tap off. -/
theorem test_count_wraps_and_tap_off :
    view (exec (.streamChunk 0) { streaming [] [0, 0, 0, 0, 0, 0] with
        pairCount := 0xFFFFFFFF, params := { Params.atReset with rawTapEn := false } })
        (fun t => (t.pairCount, t.raw)) = some (1, []) := by decide

/-- T10: the report carries the exact rate and LAST_RATE its low 32 bits. -/
theorem test_throughput_t10 :
    let t := throughputCheck 1 { State.reset with
      pairCount := 0xFFFFFFFF, params := { Params.atReset with reportInterval := 1 } }
    (t.diag, t.lastRate) = ([.report 4294967295000], 0xFFFFFC18) := by decide

/-- T5: 7000 / 1001 is 6. -/
theorem test_throughput_t5 :
    (throughputCheck 1001 { State.reset with pairCount := 7 }).diag = [.report 6] := by decide

/-- K1. -/
theorem test_cancel_k1 :
    view (exec .cancel { streaming [0xAB] [] with pairCount := 9 })
        (fun t => (t.phase, t.residue, t.lastCause, t.pairCount, t.diag)) =
      some (.idle, [], .framingDiscard, 9, [.framingDiscard 1]) := by decide

/-- K4. -/
theorem test_cancel_k4 : view (exec .cancel (ready .fault [1] 1)) (fun t => (t.phase, t.rx)) = some (.fault, [1]) := by decide

/-- K5, and R221: RX is left. -/
theorem test_reset_k5 :
    view (exec .reset { streaming [0x12, 0x34] [7] with lastCode := 5, windowStart := 3 })
        (fun t => (observe t 0, t.lastCode, t.windowStart, t.rx, t.diag)) =
      some (0, 0, 0, [7], [.framingDiscard 2]) := by decide

/-- P2's end state: STATUS 0x03080613. -/
theorem test_status_p2 :
    statusWord { State.reset with
      phase := .streaming, residue := [0], respValid := true, respLen := 8, lastCause := .protoStatus } = 0x03080613 := by
  decide

/-- R93's example of a line. -/
theorem test_operation_text : operationText (.cfgGpioPinValue 0 13 1 1) = some "CFG_GPIO_PIN 0, 13, 1, 1".toList := by
  decide

/-! ### The step -/

theorem test_reset_waits : step State.reset = .next State.reset := rfl

theorem test_placed_row_runs :
    view (step (State.reset.withFetchWord 32 0x0ABC0DEF)) (fun t => (t.result, t.agenda)) =
      some (.bytes [0xBC, 0x0A, 0xEF, 0x0D], []) := by decide

/-- The RESP row places its bytes on RX: V2's answer, against LAST_CODE 2. -/
theorem test_placed_response_is_read :
    view (step ({ State.reset with lastCode := 2 }.withFetchWord 64 0x0000000100000002))
        (fun t => (t.respCode, t.respStatus, t.lastCause)) = some (2, 1, .protoStatus) := by decide

/-! ### Hypotheses are met: the encodings -/

theorem witness_FrameIsCodeThenArguments : (3 : Nat) < 4 := by decide
theorem witness_ParseUndoesFrame :
    ([1, 2, 3, 4] : List Word).length ≤ Config.maxArgs ∧ ([] : List Word).length ≤ Config.maxArgs := by decide
theorem witness_DecodeConsumesWholeTriplets : (1 : Nat) < ([1, 2, 3, 4, 5, 6, 7, 8] : List Byte).length / 3 := by decide
theorem witness_DecodeUndoesEncode : Params.atReset.wf = true ∧ (Instr.cfgGpioPinValue 1 2 3 0xFFFFFFFF).wf = true := by
  decide
theorem witness_EncodeUndoesDecode :
    decode Params.atReset 0 (.req [4, 0, 0, 0]) = .ok .triggerAdc ∧
    decode Params.atReset 0 (.sc12 [1, 2, 3]) = .ok (.unpack 1 2 3) ∧
    decode Params.atReset 0 (.sc16 [0xFF, 0x0F, 0xFF, 0x0F]) = .ok (.pack16 0xFFF 0xFFF) := by decide
theorem witness_ReservedEncodingsAreRefused_code : (6 : Word) ∉ Params.atReset.codes := by decide
theorem witness_ReservedEncodingsAreRefused_req :
    ¬ ∃ k : Nat, ([1, 0, 0] : List Byte).length = 4 * (1 + k) := by
  rintro ⟨k, h⟩
  simp only [List.length_cons, List.length_nil] at h
  omega
theorem witness_ReservedEncodingsAreRefused_lengths :
    ([1, 2] : List Byte).length ≠ 3 ∧ ([1, 2, 3, 4, 5] : List Byte).length ≠ 4 ∧
    ([1, 2, 3, 4, 5, 6, 7] : List Byte).length ≠ 8 := by decide
theorem witness_ReservedEncodingsAreRefused_sc16 : 16 ≤ (0x10 : Byte).toNat ∨ 16 ≤ (0x0F : Byte).toNat := by decide

/-! ### Hypotheses are met: the command channel -/

/-- The row of a command in the state after reset. -/
def gpioRow : CommandRow := ⟨.cfgGpioPin, 1, [2, 5, 3], .configuring⟩

theorem witness_CommandWithCleanResponse :
    let s := ready .triggered [1, 0, 0, 0, 0, 0, 0, 0, 9] 9
    commandRow s.params (.cfgGpioPin 2 5 3) = some gpioRow ∧ accepts s.phase ∧ s.nextTx = .ok ∧ s.nextRx = .upTo 9 ∧
    (s.arrived.take (min 9 8)).length = 8 ∧ le32At s.arrived 0 = gpioRow.code ∧ le32At s.arrived 4 = 0 := by
  unfold accepts; decide

theorem witness_commandRow_of_the_others :
    (commandRow Params.atReset (.cfgGpioPinValue 1 2 3 4)).isSome ∧ (commandRow Params.atReset .cfgDma).isSome ∧
    (commandRow Params.atReset .cfgAdc).isSome ∧ (commandRow Params.atReset .triggerAdc).isSome := by decide

theorem witness_CommandWithWrongResponse :
    let s := ready .idle [1, 0, 0, 0, 1, 0, 0, 0] 8
    commandRow s.params (.cfgGpioPin 2 5 3) = some gpioRow ∧ accepts s.phase ∧ s.nextTx = .ok ∧ s.nextRx = .upTo 8 ∧
    (s.arrived.take (min 8 8)).length = 8 ∧ (le32At s.arrived 0 ≠ gpioRow.code ∨ le32At s.arrived 4 ≠ 0) := by
  unfold accepts; decide

theorem witness_CommandWithShortResponse :
    let s := ready .configuring [1, 0, 0, 0, 0, 0, 0] 8
    commandRow s.params (.cfgGpioPin 2 5 3) = some gpioRow ∧ accepts s.phase ∧ s.nextTx = .ok ∧ s.nextRx = .upTo 8 ∧
    (s.arrived.take (min 8 8)).length < 8 := by
  unfold accepts; decide

theorem witness_CommandWithFailedRead :
    let s := readFails .idle []
    commandRow s.params (.cfgGpioPin 2 5 3) = some gpioRow ∧ accepts s.phase ∧ s.nextTx = .ok ∧ s.nextRx = .fail := by
  unfold accepts; decide

theorem witness_CommandWithFailedWrite :
    let s := writeFails .configuring
    rejectedName (.readAdc 3) = some .readAdc ∧ accepts s.phase ∧ s.nextTx = .fail := by
  unfold accepts; decide

theorem witness_CommandIsRejected :
    rejectedName .triggerAdc = some .triggerAdc ∧ (ready .streaming [] 0).phase = .streaming ∧
    (ready .fault [] 0).phase = .fault := by decide

theorem witness_ReadAdcEntersStreaming : accepts (ready .idle [] 0).phase ∧ (ready .idle [] 0).nextTx = .ok := by
  unfold accepts; decide

theorem witness_ValidateComparesACompleteResponse :
    let s := ready .idle [2, 0, 0, 0, 0, 0, 0, 0] 8
    s.nextRx = .upTo 8 ∧ (s.arrived.take (min 8 8)).length = 8 := by decide

theorem witness_ValidateReportsAShortResponse :
    let s := ready .idle [2, 0, 0, 0, 0, 0, 0] 8
    s.nextRx = .upTo 8 ∧ (s.arrived.take (min 8 8)).length < 8 := by decide

theorem witness_ValidateFailsOnAFailedRead : (readFails .idle []).nextRx = .fail := by decide

theorem witness_DetectionIsComplete :
    let s := ready .idle [1, 0, 0, 0, 0, 0, 0] 8
    commandRow s.params (.cfgGpioPin 2 5 3) = some gpioRow ∧ accepts s.phase ∧ s.nextTx = .ok ∧ s.nextRx = .upTo 8 ∧
    ∃ t, exec (.cfgGpioPin 2 5 3) s = .next t :=
  ⟨rfl, .inl rfl, rfl, rfl, _, rfl⟩

theorem witness_BlockInv_streaming : BlockInv (streaming [0x12, 0x34] [0x56]) := by
  unfold BlockInv ResponseConsistent; decide

theorem witness_BlockInv_idle : BlockInv (ready .idle [] 8) := by
  unfold BlockInv ResponseConsistent; decide

theorem witness_CommandsLeaveTheUnpacker :
    BlockInv (ready .idle [] 8) ∧ commandRow (ready .idle [] 8).params (.cfgGpioPin 2 5 3) = some gpioRow ∧
    ∃ t, exec (.cfgGpioPin 2 5 3) (ready .idle [] 8) = .next t :=
  ⟨witness_BlockInv_idle, rfl, _, rfl⟩

/-- The second clause of CommandsLeaveTheUnpacker with another residue, in STREAMING. -/
theorem witness_CommandsLeaveTheUnpacker_residue :
    BlockInv (streaming [0x12, 0x34] [0x56]) ∧ BlockInv { streaming [0x12, 0x34] [0x56] with residue := [0x77] } ∧
    ∃ t, exec .cfgDma (streaming [0x12, 0x34] [0x56]) = .next t :=
  ⟨witness_BlockInv_streaming, by unfold BlockInv ResponseConsistent; decide, _, rfl⟩

theorem witness_OnlyTheClosedSetReachesTx : ∃ t, exec .cfgDma (ready .idle [] 8) = .next t :=
  ⟨_, rfl⟩

/-! ### Hypotheses are met: streaming -/

theorem witness_StreamChunkWithoutReport :
    let s := streaming [0x12, 0x34] [0x56]
    s.phase = .streaming ∧ s.nextRx = .upTo 1 ∧ 999 < s.windowStart + s.params.reportInterval := by decide

theorem witness_StreamChunkWithReport :
    let s := streaming [] [0x56]
    s.params.wf = true ∧ s.phase = .streaming ∧ s.nextRx = .upTo 1 ∧ s.windowStart + s.params.reportInterval ≤ 1000 := by
  decide

theorem witness_StreamChunkWithFailedRead :
    (readFails .streaming [1]).phase = .streaming ∧ (readFails .streaming [1]).nextRx = .fail := by decide

theorem witness_StreamChunkNeedsStreaming : (ready .fault [] 0).phase ≠ .streaming ∧ (ready .idle [] 0).phase ≠ .streaming := by
  decide

theorem witness_EmptyReadIsHarmless :
    let s := { streaming [0x12, 0x34] [0x56] with rxAnswers := [.upTo 0] }
    BlockInv s ∧ s.phase = .streaming ∧ s.nextRx = .upTo 0 ∧ s.arrived.take (min 0 s.params.chunkSize) = [] ∧
    (∃ t, exec (.streamChunk 999) s = .next t) ∧ ∃ t, exec (.streamChunk 1000) s = .next t :=
  ⟨by unfold BlockInv ResponseConsistent; decide, rfl, rfl, rfl, ⟨_, rfl⟩, _, rfl⟩

/-- X2's cut of the stream of 95 3.5: chunks of 4 and 2 bytes, the second at the end of the window. -/
def cut : State :=
  { streaming [] [0xAB, 0xCD, 0xEF, 0x12, 0x34, 0x56] with rxAnswers := [.upTo 4, .upTo 2] }

theorem witness_runs :
    BlockInv cut ∧ cut.phase = .streaming ∧ cut.params.rawTapEn = true ∧ cut.residue = [] ∧
    ∃ t, runChunks [1, 2] cut = .next t ∧ t.phase = .streaming ∧ 2 ≤ cut.rxAnswers.length ∧
      t.raw = cut.raw ++ [0xAB, 0xCD, 0xEF, 0x12, 0x34, 0x56] :=
  ⟨by unfold BlockInv ResponseConsistent; decide, rfl, rfl, rfl, _, rfl, rfl, by decide, by decide⟩

/-- Meets the hypotheses of CarryOverEquivalence, and twice over those of ReplayOfRawReproducesOut (X2 and X1). -/
theorem witness_ReplayOfRawReproducesOut :
    (∃ t, runChunks [1, 2] cut = .next t ∧ t.phase = .streaming ∧ t.raw = cut.raw ++ [0xAB, 0xCD, 0xEF, 0x12, 0x34, 0x56]) ∧
    let s' := { cut with rxAnswers := [.upTo 6] }
    s'.phase = .streaming ∧ s'.params.rawTapEn = true ∧ s'.residue = [] ∧
    ∃ t, runChunks [7] s' = .next t ∧ t.phase = .streaming ∧ t.raw = s'.raw ++ [0xAB, 0xCD, 0xEF, 0x12, 0x34, 0x56] :=
  ⟨⟨_, rfl, rfl, by decide⟩, rfl, rfl, rfl, _, rfl, rfl, by decide⟩

theorem witness_SyntheticClockReportsOnce :
    cut.params.wf = true ∧ cut.params.reportInterval = cut.params.tickHz ∧ cut.phase = .streaming ∧ cut.pairCount = 0 ∧
    (∀ x ∈ [999], x < cut.windowStart + cut.params.reportInterval) ∧
    ∃ t, runChunks ([999] ++ [cut.windowStart + cut.params.reportInterval]) cut = .next t ∧ t.phase = .streaming ∧
      t.out.length = cut.out.length + 4 * 2 ∧ 2 < 2 ^ 32 :=
  ⟨by decide, rfl, rfl, rfl, by decide, _, rfl, rfl, rfl, by decide⟩

/-! ### Hypotheses are met: session, machine -/

theorem witness_CancelEndsStreaming :
    (streaming [1] []).phase = .streaming ∧ (streaming [] []).residue = [] ∧ (ready .fault [] 0).phase ≠ .streaming := by
  decide

theorem witness_ObservationRegisters : (7 : Nat) < 8 ∧ (streaming [1, 2] []).residue.length = 2 := by decide

/-- Every clause of the table: an accepted command, a rejected one, READ_ADC, an iteration, CANCEL and RESET. -/
theorem witness_PhaseTransitionTable :
    (∃ t, exec (.cfgGpioPin 2 5 3) (ready .idle [] 8) = .next t) ∧
    commandRow (ready .idle [] 8).params (.cfgGpioPin 2 5 3) = some gpioRow ∧ accepts (ready .idle [] 8).phase ∧
    ¬ accepts (ready .streaming [] 8).phase ∧
    (∃ t, exec (.readAdc 0) (ready .idle [] 8) = .next t) ∧ (∃ t, exec (.readAdc 0) (ready .fault [] 8) = .next t) ∧
    (∃ t, exec (.streamChunk 0) (ready .streaming [] 8) = .next t) ∧
    (∃ t, exec .cancel (ready .streaming [] 8) = .next t) ∧ (∃ t, exec .cancel (ready .fault [] 8) = .next t) ∧
    ∃ t, exec .reset (ready .fault [] 8) = .next t :=
  ⟨⟨_, rfl⟩, rfl, .inl rfl, by unfold accepts; decide, ⟨_, rfl⟩, ⟨_, rfl⟩, ⟨_, rfl⟩, ⟨_, rfl⟩, ⟨_, rfl⟩, _, rfl⟩

theorem witness_OnlyResetLeavesFault :
    (ready .fault [] 8).phase = .fault ∧ (∃ t, exec .cfgDma (ready .fault [] 8) = .next t) ∧ Instr.cfgDma ≠ .reset :=
  ⟨rfl, ⟨_, rfl⟩, by decide⟩

theorem witness_WhatLeavesStreaming :
    (readFails .streaming [1]).phase = .streaming ∧
    ∃ t, exec (.streamChunk 0) (readFails .streaming [1]) = .next t ∧ t.phase ≠ .streaming :=
  ⟨rfl, _, rfl, by decide⟩

theorem witness_ReportsOfOneOperation :
    BlockInv (streaming [0x12, 0x34] [0x56]) ∧ (∃ t, exec (.streamChunk 1000) (streaming [0x12, 0x34] [0x56]) = .next t) ∧
    (∃ t, exec .cancel (streaming [0x12, 0x34] [0x56]) = .next t) ∧
    rejectedName .cfgAdc = some .cfgAdc ∧ ∃ t, exec .cfgAdc (streaming [0x12, 0x34] [0x56]) = .next t :=
  ⟨witness_BlockInv_streaming, ⟨_, rfl⟩, ⟨_, rfl⟩, rfl, _, rfl⟩

theorem witness_FaultCauseStaysKnown :
    FaultCauseKnown { ready .fault [] 8 with lastCause := .transport } ∧ Instr.cfgDma ≠ .validate ∧
    ∃ t, exec .cfgDma { ready .fault [] 8 with lastCause := .transport } = .next t :=
  ⟨fun _ => .inl rfl, by decide, _, rfl⟩

theorem witness_StepKeepsTheInvariant :
    BlockInv { streaming [0x12, 0x34] [0x56] with agenda := [.streamChunk 5] } ∧
    ∃ t, step { streaming [0x12, 0x34] [0x56] with agenda := [.streamChunk 5] } = .next t :=
  ⟨by unfold BlockInv ResponseConsistent; decide, _, rfl⟩

/-- Meets the hypotheses of StepKeepsOutWellFormed, StepKeepsTheParameters and ChannelsAreAppendOnly. -/
theorem witness_StepKeepsOutWellFormed :
    let s := { streaming [0x12, 0x34] [0x56] with agenda := [.streamChunk 5], out := [0x23, 0x01, 0x56, 0x04] }
    OutWellFormed s ∧ ∃ t, step s = .next t := by
  refine ⟨⟨by decide, fun k x h => ?_⟩, _, rfl⟩
  match k, h with
  | 0, h => cases h; decide
  | 1, h => cases h; decide
  | k + 2, h =>
    rw [List.getElem?_eq_none (by simp; omega)] at h
    cases h

theorem witness_StepTakesTheNextOperation :
    let s := { ready .idle [] 8 with agenda := [.cancel, .reset] }
    s.params.wf = true ∧ s.agenda = .cancel :: [.reset] := by decide

theorem witness_StepWithoutARequest :
    (streaming [] []).params.wf = true ∧ (streaming [] []).agenda = [] ∧ (streaming [] []).phase = .streaming ∧
    (ready .fault [] 0).agenda = [] ∧ (ready .fault [] 0).phase ≠ .streaming := by decide

theorem witness_StepNeedsAdmittedParameters :
    let p : Params := { Params.atReset with reportInterval := 0 }
    ¬ (1 ≤ p.chunkSize ∧ 1 ≤ p.tickHz ∧ 1 ≤ p.reportInterval ∧ p.codes.Nodup) := by decide

theorem witness_PlacedTableRowRuns :
    State.reset.params.wf = true ∧ decodeTable State.reset.params 64 2 = some .validate ∧
    encodedOfTable State.reset.params 64 2 = .resp [2, 0, 0, 0, 0, 0, 0, 0] ∧
    decodeTable State.reset.params 32 2 = some .cfgDma ∧ encodedOfTable State.reset.params 32 2 = .req [2, 0, 0, 0] := by
  decide

end Sys2Proof.Tests
end

/-! PROOFS. The state's family: the fields of STATUS (10_state.md R38), and the parameters no step writes (R36). -/

namespace Sys2Proof.Machine

/-! ### The fields of STATUS -/

theorem framingPending_eq_decide (s : State) : framingPending s = decide (s.residue.length ≠ 0) :=
  Bool.eq_iff_iff.2 (by simp [framingPending, residueCount])

/-- The wide fields of STATUS and its reserved bits: each extract skips the parts below its own, then is all of it. -/
theorem statusWord_fields (s : State) :
    (statusWord s).extractLsb' 0 3 = phaseCode s.phase ∧
    (statusWord s).extractLsb' 3 1 = 0 ∧
    (statusWord s).extractLsb' 4 2 = BitVec.ofNat 2 s.residue.length ∧
    (statusWord s).extractLsb' 11 5 = 0 ∧
    (statusWord s).extractLsb' 16 4 = s.respLen ∧
    (statusWord s).extractLsb' 20 4 = 0 ∧
    (statusWord s).extractLsb' 24 8 = causeCode s.lastCause := by
  simp (disch := decide) only [statusWord, BitVec.extractLsb'_append_eq_of_le, BitVec.extractLsb'_append_eq_of_add_le]
  have whole {n : Nat} (x : BitVec n) : x.extractLsb' 0 n = x := BitVec.extractLsb'_eq_self
  exact ⟨whole _, whole _, whole _, whole _, whole _, whole _, whole _⟩

/-- The one-bit fields of STATUS. -/
theorem statusWord_flags (s : State) :
    (statusWord s).getLsbD 6 = s.sizeErr ∧
    (statusWord s).getLsbD 7 = s.codeErr ∧
    (statusWord s).getLsbD 8 = s.statusErr ∧
    (statusWord s).getLsbD 9 = s.respValid ∧
    (statusWord s).getLsbD 10 = framingPending s := by
  simp only [statusWord, BitVec.getLsbD_append]
  simp [flagBit]

/-- Settles O39: register 0 is `statusWord`, read field by field. -/
theorem statusPacking : Obligations.StatusPacking := by
  intro s
  obtain ⟨hphase, h3, hcount, h11, hlen, h20, hcause⟩ := statusWord_fields s
  obtain ⟨hsize, hcode, hstatus, hvalid, hpending⟩ := statusWord_flags s
  exact ⟨hphase, h3, hcount, hsize, hcode, hstatus, hvalid, hpending.trans (framingPending_eq_decide s), h11, hlen, h20,
    hcause⟩

/-! ### The parameters through the shared operations -/

@[simp] theorem reportDiscard_params (s : State) : (reportDiscard s).params = s.params := by
  rw [reportDiscard_eq]

@[simp] theorem raiseTransport_params (dir : Direction) (s : State) : (raiseTransport dir s).params = s.params := by
  rw [raiseTransport_eq]

@[simp] theorem reportResponse_params (code : Word) (len : Nat) (s : State) :
    (reportResponse code len s).params = s.params := by
  unfold reportResponse
  split
  · rw [raiseProtocol_eq]
  · rfl

@[simp] theorem validate_params (code : Word) (s : State) : (validate code s).params = s.params := by
  obtain ⟨-, heq⟩ | ⟨k, b, -, -, heq⟩ := validate_cases code s <;> simp [heq]

@[simp] theorem command_params (op : Operation) (code : Word) (args : List Word) (target : Phase) (s : State) :
    (command op code args target s).params = s.params := by
  obtain ⟨cause, -, heq⟩ | ⟨-, -, heq⟩ | ⟨-, -, heq⟩ := command_cases ⟨op, code, args, target⟩ s <;> simp [heq]

theorem execReadAdc_params {now : Nat} {s t : State} (h : execReadAdc now s = .next t) : t.params = s.params := by
  obtain ⟨cause, -, heq⟩ | ⟨-, -, heq⟩ | ⟨-, -, heq⟩ := execReadAdc_cases now s <;>
    cases heq.symm.trans h <;> simp

@[simp] theorem cancelResidue_params (s : State) : (cancelResidue s).params = s.params := by
  unfold cancelResidue
  split <;> simp

theorem execCancel_params {s t : State} (h : execCancel s = .next t) : t.params = s.params := by
  cases h
  split <;> simp

@[simp] theorem absorbChunk_params (chunk : List Byte) (s : State) : (absorbChunk chunk s).params = s.params := by
  rw [absorbChunk_eq]

@[simp] theorem throughputCheck_params (now : Nat) (s : State) : (throughputCheck now s).params = s.params := by
  obtain hlt | hle := Nat.lt_or_ge now (s.windowStart + s.params.reportInterval)
  · rw [throughputCheck_of_lt hlt]
  · rw [throughputCheck_of_le hle]

@[simp] theorem streamIteration_params (now : Nat) (s : State) : (streamIteration now s).params = s.params := by
  obtain ⟨-, heq⟩ | ⟨k, -, heq⟩ := streamIteration_cases now s <;> simp [heq]

/-! ### The parameters through the operations and the step -/

/-- "No operation writes a configuration value" (R36). -/
theorem exec_params {i : Instr} {s t : State} (h : exec i s = .next t) : t.params = s.params := by
  cases i with
  | cfgGpioPin group pin mode => cases h; exact command_params ..
  | cfgGpioPinValue group pin mode value => cases h; exact command_params ..
  | cfgDma => cases h; exact command_params ..
  | cfgAdc => cases h; exact command_params ..
  | triggerAdc => cases h; exact command_params ..
  | readAdc now => exact execReadAdc_params h
  | validate => cases h; exact validate_params ..
  | unpack b0 b1 b2 => cases h; rfl
  | pack16 si sq => cases h; rfl
  | streamChunk now =>
    obtain ⟨-, rfl⟩ := execStreamChunk_next h
    exact streamIteration_params now s
  | cancel => exact execCancel_params h
  | reset =>
    cases h
    simp

/-- Settles O50: an operation of the agenda and an iteration of the engine's own are `exec`, and a block that waits is
unchanged. -/
theorem stepKeepsTheParameters : Obligations.StepKeepsTheParameters := by
  intro s t h
  obtain ⟨i, rest, -, hexec⟩ | ⟨-, -, hexec⟩ | ⟨-, -, rfl⟩ := step_cases h
  · exact (exec_params hexec :)
  · exact (exec_params hexec :)
  · rfl

end Sys2Proof.Machine

/-! PROOFS. The encodings' family: the frame as little-endian words (30_encoding.md R81), the triplet fields (R86,
41_stream_decoder.md R140) and the SC16 words (R87, R141). -/

namespace Sys2Proof.Machine

/-! ### The frame -/

theorem frame_eq_flatMap (code : Word) (args : List Word) : frame code args = (code :: args).flatMap bytesLE32 :=
  rfl

@[simp] theorem bytesLE32_length (w : Word) : (bytesLE32 w).length = 4 :=
  rfl

theorem bytesLE32_getElem? (w : Word) {r : Nat} (hr : r < 4) : (bytesLE32 w)[r]? = some (w.extractLsb' (8 * r) 8) := by
  match r, hr with
  | 0, _ | 1, _ | 2, _ | 3, _ => rfl

theorem flatMap_bytesLE32_length (ws : List Word) : (ws.flatMap bytesLE32).length = 4 * ws.length := by
  simp [List.length_flatMap, Nat.mul_comm]

/-- Byte `4j + r` lies in the four bytes of word `j`: each word before it takes four bytes away. -/
theorem flatMap_bytesLE32_getElem? (ws : List Word) (j : Nat) {r : Nat} (hr : r < 4) :
    (ws.flatMap bytesLE32)[4 * j + r]? = ws[j]?.map fun w => w.extractLsb' (8 * r) 8 := by
  induction ws generalizing j with
  | nil => rfl
  | cons w ws ih =>
    rw [List.flatMap_cons]
    cases j with
    | zero =>
      rw [List.getElem?_append_left (by simp [hr])]
      simp [bytesLE32_getElem? w hr]
    | succ j =>
      have hskip : 4 * (j + 1) + r - (bytesLE32 w).length = 4 * j + r := by rw [bytesLE32_length]; omega
      rw [List.getElem?_append_right (by rw [bytesLE32_length]; omega), hskip, ih j, List.getElem?_cons_succ]

/-- Settles O2: the frame is the bytes of the words `code :: args`, four to a word. -/
theorem frameIsCodeThenArguments : Obligations.FrameIsCodeThenArguments := by
  intro code args
  rw [frame_eq_flatMap]
  refine ⟨?_, fun j r hr => flatMap_bytesLE32_getElem? (code :: args) j hr⟩
  rw [flatMap_bytesLE32_length, List.length_cons, Nat.add_comm]

/-! ### The fields of a triplet -/

theorem highNibble_setWidth (b : Byte) : b.setWidth 12 >>> 4 = (b.extractLsb' 4 4).setWidth 12 := by
  apply BitVec.eq_of_toNat_eq
  have := b.isLt
  simp [Nat.shiftRight_eq_div_pow]
  omega

theorem lowNibble_setWidth (b : Byte) : (b &&& 0x0F).setWidth 12 = (b.extractLsb' 0 4).setWidth 12 := by
  apply BitVec.eq_of_toNat_eq
  have hmask : (b &&& 0x0F).toNat = b.toNat % 16 := Nat.and_two_pow_sub_one_eq_mod b.toNat 4
  rw [BitVec.toNat_setWidth, hmask, BitVec.toNat_setWidth, BitVec.extractLsb'_toNat]
  rfl

/-- Settles O4: the shift-and-or of R140 puts one field above the other, and the nibbles of `b1` complete the two
samples. -/
theorem unpackTakesTheTripletFields : Obligations.UnpackTakesTheTripletFields := by
  intro b0 b1 b2
  rw [unpack, highNibble_setWidth, lowNibble_setWidth, ← BitVec.setWidth_append_eq_shiftLeft_setWidth_or,
    ← BitVec.setWidth_append_eq_shiftLeft_setWidth_or]
  exact Prod.ext (BitVec.setWidth_eq _) (BitVec.setWidth_eq _)

/-! ### The SC16 words -/

theorem bytesLE16_setWidth (x : Sample) :
    bytesLE16 (x.setWidth 16) = [x.extractLsb' 0 8, (0 : BitVec 4) ++ x.extractLsb' 8 4] := by
  have hlow : (x.setWidth 16).extractLsb' 0 8 = x.extractLsb' 0 8 := BitVec.extractLsb'_setWidth_of_le (by decide)
  have hhigh : (x.setWidth 16).extractLsb' 8 8 = (0 : BitVec 4) ++ x.extractLsb' 8 4 := by
    have hzero : (x.extractLsb' 8 4).setWidth 8 = (0 : BitVec 4) ++ x.extractLsb' 8 4 :=
      BitVec.setWidth_eq_append (by decide)
    rw [← hzero]
    apply BitVec.eq_of_toNat_eq
    have := x.isLt
    simp [Nat.shiftRight_eq_div_pow]
    omega
  rw [bytesLE16, hlow, hhigh]

/-- Settles O5: each sample is one zero-extended word, low byte first, I before Q. -/
theorem pack16ZeroExtendsAndInterleaves : Obligations.Pack16ZeroExtendsAndInterleaves := by
  intro i q
  rw [pack16, bytesLE16_setWidth, bytesLE16_setWidth]
  rfl

end Sys2Proof.Machine

/-! PROOFS. The command channel's family: a command that reads a response neither writes nor reads the unpacker state
(40_command_channel.md R117). -/

namespace Sys2Proof.Machine

/-! ### The unpacker state as a parameter -/

/-- `s` with other values in the four fields R117 names. -/
def State.withUnpacker (s : State) (residue : List Byte) (pairs : Word) (window : Nat) (rate : Word) : State :=
  { s with residue := residue, pairCount := pairs, windowStart := window, lastRate := rate }

theorem withUnpacker_self (s : State) : s.withUnpacker s.residue s.pairCount s.windowStart s.lastRate = s :=
  rfl

section

variable {s : State} (residue : List Byte) (pairs : Word) (window : Nat) (rate : Word)

/-- A TransportError empties RESIDUE and reports what it drops (R195), so it is blind to the unpacker state only where no
residue is held. -/
theorem raiseTransport_withUnpacker (dir : Direction) (hs : s.residue = []) :
    raiseTransport dir (s.withUnpacker [] pairs window rate) =
      (raiseTransport dir s).withUnpacker [] pairs window rate := by
  rw [raiseTransport_eq, raiseTransport_eq, hs]
  rfl

theorem reportResponse_withUnpacker (code : Word) (len : Nat) :
    reportResponse code len (s.withUnpacker residue pairs window rate) =
      (reportResponse code len s).withUnpacker residue pairs window rate := by
  rw [reportResponse, reportResponse, apply_ite (State.withUnpacker · residue pairs window rate)]
  rfl

theorem validate_withUnpacker (code : Word) (hs : s.residue = []) :
    validate code (s.withUnpacker [] pairs window rate) = (validate code s).withUnpacker [] pairs window rate := by
  obtain ⟨hfail, heq⟩ | ⟨k, b, hk, rfl, heq⟩ := validate_cases code s
  · rw [heq, ← raiseTransport_withUnpacker]
    · exact validate_of_fail code hfail
    · exact hs
  · rw [heq, ← reportResponse_withUnpacker]
    exact validate_of_upTo code hk

/-- A rejection looks at PHASE alone; a command that is accepted needs both residues empty, since its write or its read can
raise a TransportError. -/
theorem command_withUnpacker (row : CommandRow) (hs : accepts s.phase → s.residue = [])
    (hresidue : accepts s.phase → residue = []) :
    command row.op row.code row.args row.target (s.withUnpacker residue pairs window rate) =
      (command row.op row.code row.args row.target s).withUnpacker residue pairs window rate := by
  obtain ⟨cause, hcause, heq⟩ | ⟨hacc, hfail, heq⟩ | ⟨hacc, hok, heq⟩ := command_cases row s
  · rw [heq]
    exact command_of_rejected row hcause
  · obtain rfl := hresidue hacc
    rw [heq, ← raiseTransport_withUnpacker]
    · exact command_of_failed_write row hacc hfail
    · exact hs hacc
  · obtain rfl := hresidue hacc
    rw [heq, ← validate_withUnpacker]
    · exact command_of_sent row hacc hok
    · exact hs hacc

end

theorem residue_nil_of_accepts {s : State} (hinv : BlockInv s) (hacc : accepts s.phase) : s.residue = [] := by
  obtain ⟨-, hres, -⟩ := hinv
  refine hres fun hstreaming => ?_
  simp [accepts, hstreaming] at hacc

/-- A command that reads a response runs alike whatever the unpacker state holds. -/
theorem exec_withUnpacker {s t : State} {i : Instr} {row : CommandRow} (hinv : BlockInv s)
    (hrow : commandRow s.params i = some row) (h : exec i s = .next t) (residue : List Byte) (pairs : Word) (window : Nat)
    (rate : Word) (hinv' : BlockInv { s with residue := residue }) :
    exec i (s.withUnpacker residue pairs window rate) = .next (t.withUnpacker residue pairs window rate) := by
  cases (exec_of_commandRow hrow).symm.trans h
  rw [← command_withUnpacker _ _ _ _ _ (residue_nil_of_accepts hinv) fun hacc => residue_nil_of_accepts hinv' hacc]
  exact exec_of_commandRow hrow

/-- Settles O23: a command runs alike whatever the unpacker state holds, and run with the values `s` already has it ends in
a state that has them still. -/
theorem commandsLeaveTheUnpacker : Obligations.CommandsLeaveTheUnpacker := by
  intro s t i row hinv hrow h
  refine ⟨?_, exec_withUnpacker hinv hrow h⟩
  have hself := exec_withUnpacker hinv hrow h s.residue s.pairCount s.windowStart s.lastRate hinv
  rw [withUnpacker_self, h] at hself
  have ht : t = t.withUnpacker s.residue s.pairCount s.windowStart s.lastRate := Host.Outcome.next.inj hself
  rw [ht]
  exact ⟨rfl, rfl, rfl, rfl⟩

end Sys2Proof.Machine

/-! PROOFS. The stream decoder's family: DECODE of a buffer, triplet by triplet (41_stream_decoder.md R143). -/

namespace Sys2Proof.Machine

/-- The recursion of DECODE as an induction: fewer than three bytes complete no triplet, and three bytes are the first. -/
theorem triplet_induction {motive : List Byte → Prop}
    (short : ∀ buf : List Byte, buf.length < 3 → motive buf)
    (triplet : ∀ (b0 b1 b2 : Byte) (rest : List Byte), motive rest → motive (b0 :: b1 :: b2 :: rest)) :
    ∀ buf, motive buf
  | b0 :: b1 :: b2 :: rest => triplet b0 b1 b2 rest (triplet_induction short triplet rest)
  | [] | [_] | [_, _] => short _ (by simp)

theorem length_triplet_div (b0 b1 b2 : Byte) (rest : List Byte) :
    (b0 :: b1 :: b2 :: rest).length / 3 = rest.length / 3 + 1 :=
  Nat.add_div_right rest.length (by decide : 0 < 3)

/-! ### A buffer too short for a triplet -/

theorem pairsOf_of_length_lt {buf : List Byte} (h : buf.length < 3) : pairsOf buf = [] := by
  match buf, h with
  | [], _ | [_], _ | [_, _], _ => rfl

theorem restOf_of_length_lt {buf : List Byte} (h : buf.length < 3) : restOf buf = buf := by
  match buf, h with
  | [], _ | [_], _ | [_, _], _ => rfl

/-! ### The pairs, the bytes and the remainder -/

theorem pairsOf_length (buf : List Byte) : (pairsOf buf).length = buf.length / 3 := by
  induction buf using triplet_induction with
  | short buf h => rw [pairsOf_of_length_lt h, Nat.div_eq_of_lt h, List.length_nil]
  | triplet b0 b1 b2 rest ih => rw [pairsOf, List.length_cons, ih, length_triplet_div]

theorem restOf_eq_drop (buf : List Byte) : restOf buf = buf.drop (3 * (buf.length / 3)) := by
  induction buf using triplet_induction with
  | short buf h => rw [restOf_of_length_lt h, Nat.div_eq_of_lt h, Nat.mul_zero, List.drop_zero]
  | triplet b0 b1 b2 rest ih => rw [restOf, ih, length_triplet_div, Nat.mul_add_one]; rfl

theorem pack16_length (i q : Sample) : (pack16 i q).length = 4 :=
  rfl

theorem sc16Of_length (buf : List Byte) : (sc16Of buf).length = 4 * (buf.length / 3) := by
  simp [sc16Of, List.length_flatMap, pack16_length, pairsOf_length, Nat.mul_comm]

theorem sc16Of_triplet (b0 b1 b2 : Byte) (rest : List Byte) :
    sc16Of (b0 :: b1 :: b2 :: rest) = pack16 (unpack b0 b1 b2).1 (unpack b0 b1 b2).2 ++ sc16Of rest :=
  rfl

/-- Bytes `4k` to `4k + 3` come of triplet `k`: each triplet before it takes three bytes of the buffer and four of the output
away, so `ih` is the goal once both have passed the first. -/
theorem sc16Of_block (buf : List Byte) {k : Nat} (hk : k < buf.length / 3) :
    ((sc16Of buf).drop (4 * k)).take 4 =
      pack16 (unpack (buf.getD (3 * k) 0) (buf.getD (3 * k + 1) 0) (buf.getD (3 * k + 2) 0)).1
        (unpack (buf.getD (3 * k) 0) (buf.getD (3 * k + 1) 0) (buf.getD (3 * k + 2) 0)).2 := by
  induction buf using triplet_induction generalizing k with
  | short buf h => omega
  | triplet b0 b1 b2 rest ih =>
    rw [sc16Of_triplet]
    cases k with
    | zero => rfl
    | succ k =>
      have hk' : k < rest.length / 3 := by rw [length_triplet_div] at hk; omega
      exact ih hk'

/-- Settles O7: by induction on the triplets of the buffer, each clause a lemma of its own. -/
theorem decodeConsumesWholeTriplets : Obligations.DecodeConsumesWholeTriplets := fun buf =>
  ⟨pairsOf_length buf, sc16Of_length buf, restOf_eq_drop buf, fun _ hk => sc16Of_block buf hk⟩

end Sys2Proof.Machine

/-! PROOFS. Session control's family: CANCEL (42_session_control.md R174) and the table of phase transitions (R170). -/

namespace Sys2Proof.Machine

/-! ### CANCEL -/

/-- The FramingError of CANCEL is raised exactly where a residue is held. -/
theorem cancelResidue_eq (s : State) :
    cancelResidue s =
      { s with
        lastCause := if s.residue = [] then s.lastCause else .framingDiscard
        diag := s.diag ++ if s.residue = [] then [] else [.framingDiscard s.residue.length] } := by
  unfold cancelResidue
  by_cases h : s.residue = []
  · rw [if_neg (by simp [h]), if_pos h, if_pos h, List.append_nil]
  · rw [if_pos (List.length_pos_iff.2 h), if_neg h, if_neg h]
    rfl

theorem execCancel_of_streaming {s : State} (h : s.phase = .streaming) :
    execCancel s = .next { cancelResidue s with residue := [], phase := .idle } := by
  rw [execCancel, if_pos h]

theorem execCancel_of_ne_streaming {s : State} (h : s.phase ≠ .streaming) : execCancel s = .next s := by
  rw [execCancel, if_neg h]

/-- Settles O35: in STREAMING the residue's error is raised before RESIDUE and PHASE are written. -/
theorem cancelEndsStreaming : Obligations.CancelEndsStreaming := by
  intro s
  refine ⟨fun h => ?_, execCancel_of_ne_streaming⟩
  have hcancel := execCancel_of_streaming h
  rw [cancelResidue_eq] at hcancel
  exact hcancel

/-! ### The phase through the shared operations -/

@[simp] theorem raiseTransport_phase (dir : Direction) (s : State) : (raiseTransport dir s).phase = .fault :=
  rfl

@[simp] theorem reportResponse_phase (code : Word) (len : Nat) (s : State) :
    (reportResponse code len s).phase = s.phase := by
  unfold reportResponse
  split <;> rfl

@[simp] theorem absorbChunk_phase (chunk : List Byte) (s : State) : (absorbChunk chunk s).phase = s.phase := by
  rw [absorbChunk_eq]

@[simp] theorem throughputCheck_phase (now : Nat) (s : State) : (throughputCheck now s).phase = s.phase := by
  obtain hlt | hle := Nat.lt_or_ge now (s.windowStart + s.params.reportInterval)
  · rw [throughputCheck_of_lt hlt]
  · rw [throughputCheck_of_le hle]

theorem validate_phase (code : Word) (s : State) :
    (validate code s).phase = if s.nextRx = .fail then .fault else s.phase := by
  obtain ⟨hfail, heq⟩ | ⟨k, b, hk, -, heq⟩ := validate_cases code s
  · simp [heq, hfail]
  · simp [heq, hk]

theorem streamIteration_phase (now : Nat) (s : State) :
    (streamIteration now s).phase = if s.nextRx = .fail then .fault else s.phase := by
  obtain ⟨hfail, heq⟩ | ⟨k, hk, heq⟩ := streamIteration_cases now s
  · simp [heq, hfail]
  · simp [heq, hk]

/-! ### Control operations, accepted and rejected -/

/-- Where a command is not accepted it is rejected, with cause 7 in STREAMING and 8 in FAULT (R111). -/
theorem guardCause_of_not_accepts {ph : Phase} (h : ¬ accepts ph) :
    guardCause ph = some (if ph = .streaming then .cmdInStreaming else .cmdInFault) := by
  cases ph with
  | idle => exact absurd (.inl rfl) h
  | configuring => exact absurd (.inr (.inl rfl)) h
  | triggered => exact absurd (.inr (.inr rfl)) h
  | streaming => rfl
  | fault => rfl

theorem command_of_not_accepts {s : State} (row : CommandRow) (h : ¬ accepts s.phase) :
    command row.op row.code row.args row.target s =
      reject row.op (if s.phase = .streaming then .cmdInStreaming else .cmdInFault) s :=
  command_of_rejected row (guardCause_of_not_accepts h)

theorem execReadAdc_of_not_accepts {s : State} (now : Nat) (h : ¬ accepts s.phase) :
    execReadAdc now s =
      .next (reject .readAdc (if s.phase = .streaming then .cmdInStreaming else .cmdInFault) s) := by
  simp only [execReadAdc, guardCause_of_not_accepts h]

/-- A write that succeeds leaves the answer to the read after it as it was, so an accepted command ends in its target phase
unless either answer is a failure. -/
theorem command_phase_of_accepts {s : State} (row : CommandRow) (h : accepts s.phase) :
    (command row.op row.code row.args row.target s).phase =
      if s.nextTx = .fail ∨ s.nextRx = .fail then .fault else row.target := by
  cases hw : s.nextTx with
  | fail => simp [command_of_failed_write row h hw]
  | ok =>
    rw [command_of_sent row h hw, validate_phase, nextRx_congr (s := s)]
    · simp
    · rfl
    · rfl

theorem execReadAdc_phase_of_accepts {now : Nat} {s t : State} (hp : accepts s.phase) (h : execReadAdc now s = .next t) :
    t.phase = if s.nextTx = .fail then .fault else .streaming := by
  obtain ⟨cause, hcause, -⟩ | ⟨-, hfail, heq⟩ | ⟨-, hok, heq⟩ := execReadAdc_cases now s
  · rw [(guardCause_eq_none_iff _).2 hp] at hcause
    cases hcause
  · cases heq.symm.trans h
    simp [hfail]
  · cases heq.symm.trans h
    simp [hok]

/-! ### The table -/

/-- The row of R170 for a command that reads a response. -/
theorem commandRow_transition {s t : State} {i : Instr} {row : CommandRow} (hrow : commandRow s.params i = some row)
    (h : exec i s = .next t) :
    (accepts s.phase → t.phase = if s.nextTx = .fail ∨ s.nextRx = .fail then .fault else row.target) ∧
    (¬ accepts s.phase →
      t.phase = s.phase ∧ t.lastCause = if s.phase = .streaming then .cmdInStreaming else .cmdInFault) := by
  cases (exec_of_commandRow hrow).symm.trans h
  refine ⟨command_phase_of_accepts row, fun hp => ?_⟩
  rw [command_of_not_accepts row hp]
  exact ⟨rfl, rfl⟩

/-- The row of R170 for READ_ADC. -/
theorem readAdc_transition {now : Nat} {s t : State} (h : execReadAdc now s = .next t) :
    (accepts s.phase → t.phase = if s.nextTx = .fail then .fault else .streaming) ∧
    (¬ accepts s.phase →
      t.phase = s.phase ∧ t.lastCause = if s.phase = .streaming then .cmdInStreaming else .cmdInFault) := by
  refine ⟨fun hp => execReadAdc_phase_of_accepts hp h, fun hp => ?_⟩
  cases (execReadAdc_of_not_accepts now hp).symm.trans h
  exact ⟨rfl, rfl⟩

theorem streamChunk_transition {now : Nat} {s t : State} (h : execStreamChunk now s = .next t) :
    s.phase = .streaming ∧ t.phase = if s.nextRx = .fail then .fault else .streaming := by
  obtain ⟨hp, rfl⟩ := execStreamChunk_next h
  exact ⟨hp, by rw [streamIteration_phase, hp]⟩

theorem cancel_transition {s t : State} (h : execCancel s = .next t) :
    if s.phase = .streaming then t.phase = .idle else t = s := by
  split
  case isTrue hp =>
    cases (execCancel_of_streaming hp).symm.trans h
    rfl
  case isFalse hp =>
    cases (execCancel_of_ne_streaming hp).symm.trans h
    rfl

theorem reset_transition {s t : State} (h : execReset s = .next t) : t.phase = .idle := by
  cases h
  rfl

/-- Settles O42: one row of the table to a conjunct. -/
theorem phaseTransitionTable : Obligations.PhaseTransitionTable := by
  intro s t i h
  refine ⟨fun row hrow => commandRow_transition hrow h, ?_, ?_, ?_, ?_⟩
  · rintro now rfl
    exact readAdc_transition h
  · rintro now rfl
    exact streamChunk_transition h
  · rintro rfl
    exact cancel_transition h
  · rintro rfl
    exact reset_transition h

end Sys2Proof.Machine

/-! PROOFS. The exceptions' family: a control operation that GUARD rejects (60_exceptions.md R197) and what leaves FAULT
(R202). -/

namespace Sys2Proof.Machine

/-! ### Rejection -/

/-- The operations R197 names: the commands with a row in the table, and READ_ADC. -/
theorem rejectedName_cases {i : Instr} {op : Operation} (p : Params) (h : rejectedName i = some op) :
    (∃ row, commandRow p i = some row ∧ row.op = op) ∨ (∃ now, i = .readAdc now) ∧ op = .readAdc := by
  cases i with
  | cfgGpioPin | cfgGpioPinValue | cfgDma | cfgAdc | triggerAdc =>
    cases h
    exact .inl ⟨_, rfl, rfl⟩
  | readAdc now =>
    cases h
    exact .inr ⟨⟨now, rfl⟩, rfl⟩
  | validate | unpack | pack16 | streamChunk | cancel | reset => cases h

theorem execReadAdc_of_rejected {s : State} {cause : Cause} (now : Nat) (h : guardCause s.phase = some cause) :
    execReadAdc now s = .next (reject .readAdc cause s) := by
  simp only [execReadAdc, h]

/-- Where GUARD gives a cause, a control operation is its rejection and nothing else (R111). -/
theorem exec_of_rejected {s : State} {i : Instr} {op : Operation} {cause : Cause} (hname : rejectedName i = some op)
    (hcause : guardCause s.phase = some cause) : exec i s = .next (reject op cause s) := by
  obtain ⟨row, hrow, rfl⟩ | ⟨⟨now, rfl⟩, rfl⟩ := rejectedName_cases s.params hname
  · rw [exec_of_commandRow hrow, command_of_rejected row hcause]
  · exact execReadAdc_of_rejected now hcause

theorem guardCause_of_streaming {ph : Phase} (h : ph = .streaming) : guardCause ph = some .cmdInStreaming := by
  rw [h, guardCause]

theorem guardCause_of_fault {ph : Phase} (h : ph = .fault) : guardCause ph = some .cmdInFault := by
  rw [h, guardCause]

/-- Settles O17: GUARD gives STREAMING and FAULT one cause each, and the operation is the rejection with it. -/
theorem commandIsRejected : Obligations.CommandIsRejected := fun _ _ _ hname =>
  ⟨fun hp => exec_of_rejected hname (guardCause_of_streaming hp),
    fun hp => exec_of_rejected hname (guardCause_of_fault hp)⟩

/-! ### FAULT -/

theorem fault_of_rejectedName {s t : State} {i : Instr} {op : Operation} (hname : rejectedName i = some op)
    (hp : s.phase = .fault) (h : exec i s = .next t) : t.phase = .fault := by
  cases (exec_of_rejected hname (guardCause_of_fault hp)).symm.trans h
  exact hp

/-- In FAULT the control operations are rejected, STREAM_CHUNK is not enabled, CANCEL has no effect, and a VALIDATE taken on
its own leads to no phase but FAULT. -/
theorem exec_keeps_fault {s t : State} {i : Instr} (hp : s.phase = .fault) (h : exec i s = .next t) (hi : i ≠ .reset) :
    t.phase = .fault := by
  have hne : s.phase ≠ .streaming := by simp [hp]
  cases i with
  | cfgGpioPin | cfgGpioPinValue | cfgDma | cfgAdc | triggerAdc | readAdc => exact fault_of_rejectedName rfl hp h
  | validate =>
    cases h
    rw [validate_phase, hp, ite_self]
  | unpack | pack16 =>
    cases h
    exact hp
  | streamChunk now => exact absurd (streamChunk_transition h).1 hne
  | cancel =>
    cases (execCancel_of_ne_streaming hne).symm.trans h
    exact hp
  | reset => exact absurd rfl hi

/-- Settles O43: every other operation keeps FAULT, and RESET answers from every phase. -/
theorem onlyResetLeavesFault : Obligations.OnlyResetLeavesFault := fun _ hp =>
  ⟨fun _ _ h hi => exec_keeps_fault hp h hi, _, rfl, reset_transition rfl⟩

end Sys2Proof.Machine

/-! PROOFS. The reset family: RESET in every phase (70_reset_and_hazards.md R220, R221). -/

namespace Sys2Proof.Machine

/-- RESET has no phase guard: it answers from every state (R220). -/
theorem exec_reset (s : State) : exec .reset s = .next (clearBlock (reportDiscard s)) :=
  rfl

/-- Settles O36: the event of a residue held is all that `reportDiscard` adds (`reportDiscard_eq`), and what `clearBlock` writes
after it are the fields of the block alone. -/
theorem resetClearsTheBlock : Obligations.ResetClearsTheBlock := by
  intro s
  rw [exec_reset, reportDiscard_eq]
  rfl

end Sys2Proof.Machine

/-! PROOFS. The encodings read back: little-endian words (20_memory.md R52), PARSE against FRAME (30_encoding.md R89), UNPACK
against PACK12 (41_stream_decoder.md R142), and the decoder against the encoder (R83, R86, R87, R91). -/

namespace Sys2Proof.Machine

/-! ### Little-endian words -/

/-- The shifts and ors of LE32 put the four bytes side by side, `b3` highest. -/
theorem le32_eq_append (b0 b1 b2 b3 : Byte) : le32 b0 b1 b2 b3 = b3 ++ b2 ++ b1 ++ b0 := by
  have h : (b3 ++ b2 ++ b1 ++ b0).setWidth 32 = le32 b0 b1 b2 b3 := by
    rw [BitVec.setWidth_append_eq_shiftLeft_setWidth_or, BitVec.setWidth_append_eq_shiftLeft_setWidth_or,
      BitVec.setWidth_append_eq_shiftLeft_setWidth_or, BitVec.shiftLeft_or_distrib, BitVec.shiftLeft_or_distrib,
      BitVec.shiftLeft_or_distrib, ← BitVec.shiftLeft_add, ← BitVec.shiftLeft_add, ← BitVec.shiftLeft_add, le32,
      BitVec.or_comm, BitVec.or_comm _ (b1.setWidth 32 <<< 8), BitVec.or_comm (_ <<< _) (b2.setWidth 32 <<< _),
      ← BitVec.or_assoc, ← BitVec.or_assoc]
  rw [← h]
  exact (BitVec.setWidth_eq _).symm

theorem bytesLE32_append (b0 b1 b2 b3 : Byte) : bytesLE32 (b3 ++ b2 ++ b1 ++ b0) = [b0, b1, b2, b3] := by
  simp (disch := decide) only [bytesLE32, BitVec.extractLsb'_append_eq_of_le, BitVec.extractLsb'_append_eq_of_add_le]
  simp

@[simp] theorem bytesLE32_le32 (b0 b1 b2 b3 : Byte) : bytesLE32 (le32 b0 b1 b2 b3) = [b0, b1, b2, b3] := by
  rw [le32_eq_append, bytesLE32_append]

/-- The four bytes of a word, put side by side again, are the word. -/
@[simp] theorem le32_extractLsb' (v : Word) :
    le32 (v.extractLsb' 0 8) (v.extractLsb' 8 8) (v.extractLsb' 16 8) (v.extractLsb' 24 8) = v := by
  rw [le32_eq_append]
  simp (disch := rfl) only [BitVec.extractLsb'_append_extractLsb'_eq_extractLsb']
  exact BitVec.extractLsb'_eq_self

/-- Settles O1: `le32_eq_append` gives the byte order, and the two inverse laws are those of extracting and appending. -/
theorem wireWordsAreLittleEndian : Obligations.WireWordsAreLittleEndian :=
  ⟨fun b0 b1 b2 b3 => ⟨le32_eq_append b0 b1 b2 b3, bytesLE32_le32 b0 b1 b2 b3⟩, fun v => ⟨rfl, le32_extractLsb' v⟩⟩

/-! ### PARSE and FRAME -/

/-- The words of a byte sequence are those whose bytes it is. -/
theorem wordsOf_eq_some_iff (b : List Byte) (ws : List Word) : wordsOf b = some ws ↔ b = ws.flatMap bytesLE32 := by
  constructor
  · intro h
    induction b using wordsOf.induct generalizing ws with
    | case1 => cases h; rfl
    | case2 b0 b1 b2 b3 rest ih =>
      obtain ⟨ws', hws', rfl⟩ := Option.map_eq_some_iff.1 h
      rw [List.flatMap_cons, bytesLE32_le32, ← ih ws' hws']
      rfl
    | case3 b hnil hcons =>
      rw [wordsOf] at h
      · cases h
      · exact hnil
      · exact hcons
  · rintro rfl
    induction ws with
    | nil => rfl
    | cons w ws ih => simp [bytesLE32, wordsOf, ih]

theorem parse_eq_some_iff (f : List Byte) (code : Word) (args : List Word) :
    parse f = some (code, args) ↔ f = frame code args := by
  have hwords : parse f = some (code, args) ↔ wordsOf f = some (code :: args) := by
    unfold parse
    split
    next hcons => simp [hcons]
    next hno => exact iff_of_false nofun (hno code args)
  rw [hwords, wordsOf_eq_some_iff, frame_eq_flatMap]

@[simp] theorem parse_frame (code : Word) (args : List Word) : parse (frame code args) = some (code, args) :=
  (parse_eq_some_iff _ _ _).2 rfl

theorem frame_length (code : Word) (args : List Word) : (frame code args).length = 4 * (1 + args.length) :=
  (frameIsCodeThenArguments code args).1

/-- A whole number of words, at least the code's. -/
theorem exists_frame_of_length {f : List Byte} {k : Nat} (h : f.length = 4 * (1 + k)) :
    ∃ code args, f = frame code args := by
  induction k generalizing f with
  | zero =>
    match f, h with
    | [b0, b1, b2, b3], _ => exact ⟨le32 b0 b1 b2 b3, [], by simp [frame]⟩
  | succ k ih =>
    match f, h with
    | b0 :: b1 :: b2 :: b3 :: rest, h =>
      obtain ⟨code, args, rfl⟩ := ih (f := rest) (by simp only [List.length_cons] at h; omega)
      exact ⟨le32 b0 b1 b2 b3, code :: args, by simp [frame]⟩

theorem parse_isSome_iff (f : List Byte) : (parse f).isSome = true ↔ ∃ k : Nat, f.length = 4 * (1 + k) := by
  rw [Option.isSome_iff_exists]
  constructor
  · rintro ⟨⟨code, args⟩, h⟩
    rw [(parse_eq_some_iff _ _ _).1 h]
    exact ⟨args.length, frame_length code args⟩
  · rintro ⟨k, hk⟩
    obtain ⟨code, args, rfl⟩ := exists_frame_of_length hk
    exact ⟨_, parse_frame code args⟩

/-- Settles O3: PARSE answers `(c, args)` on FRAME(c, args) alone, for any number of arguments. -/
theorem parseUndoesFrame : Obligations.ParseUndoesFrame :=
  ⟨fun code args _ => parse_frame code args, parse_isSome_iff⟩

/-! ### UNPACK and PACK12 -/

theorem pack12_fields (i q : Sample) :
    pack12 i q = (i.extractLsb' 4 8, i.extractLsb' 0 4 ++ q.extractLsb' 8 4, q.extractLsb' 0 8) := by
  rw [pack12, ← BitVec.setWidth_append_eq_shiftLeft_setWidth_or]
  exact congrArg (fun b => (_, b, _)) (BitVec.setWidth_eq _)

/-- A word cut in two at bit `n` and put together again. -/
theorem fields_append {m n : Nat} (x : BitVec (m + n)) : x.extractLsb' n m ++ x.extractLsb' 0 n = x := by
  rw [BitVec.extractLsb'_append_extractLsb'_eq_extractLsb' (Nat.zero_add n).symm, BitVec.extractLsb'_eq_self]

theorem pack12_unpack (b0 b1 b2 : Byte) : pack12 (unpack b0 b1 b2).1 (unpack b0 b1 b2).2 = (b0, b1, b2) := by
  rw [unpackTakesTheTripletFields, pack12_fields]
  simp (disch := decide) only [BitVec.extractLsb'_append_eq_of_le, BitVec.extractLsb'_append_eq_of_add_le]
  simp [fields_append (m := 4) (n := 4)]

theorem unpack_pack12 (i q : Sample) : unpack (pack12 i q).1 (pack12 i q).2.1 (pack12 i q).2.2 = (i, q) := by
  rw [unpackTakesTheTripletFields, pack12_fields, BitVec.extractLsb'_append_eq_left, BitVec.extractLsb'_append_eq_right,
    fields_append (m := 8) (n := 4), fields_append (m := 4) (n := 8)]

/-- Settles O6: the range is that of 12 bits, and both inverse laws are those of the fields. -/
theorem unpackIsABijection : Obligations.UnpackIsABijection :=
  ⟨fun b0 b1 b2 => ⟨Nat.le_of_lt_succ (BitVec.isLt _), Nat.le_of_lt_succ (BitVec.isLt _), pack12_unpack b0 b1 b2⟩,
    unpack_pack12⟩

end Sys2Proof.Machine

namespace Sys2Proof

open Machine

/-! ### REQ frames -/

theorem decode_req_frame (p : Params) (now : Nat) (code : Word) (args : List Word) :
    decode p now (.req (frame code args)) = decodeCommand p now code args := by
  simp only [decode, parse_frame]

/-- What a REQ decodes to comes of the frame it is. -/
theorem decode_req_eq_ok {p : Params} {now : Nat} {b : List Byte} {i : Instr} (h : decode p now (.req b) = .ok i) :
    ∃ code args, b = frame code args ∧ decodeCommand p now code args = .ok i := by
  rw [decode] at h
  split at h
  · exact ⟨_, _, (parse_eq_some_iff _ _ _).1 ‹_›, h⟩
  · cases h

theorem params_wf_iff (p : Params) :
    p.wf = true ↔ 1 ≤ p.chunkSize ∧ 1 ≤ p.tickHz ∧ 1 ≤ p.reportInterval ∧ p.codes.Nodup := by
  simp [Params.wf, Params.codesDistinct, and_assoc]

/-- R9 as the inequations the tests of `decodeCommand` need, one group to an earlier test. -/
theorem codes_ne_of_wf {p : Params} (h : p.wf = true) :
    (p.codeCfgDma ≠ p.codeCfgGpioPin ∧ p.codeCfgAdc ≠ p.codeCfgGpioPin ∧ p.codeTriggerAdc ≠ p.codeCfgGpioPin ∧
      p.codeReadAdc ≠ p.codeCfgGpioPin) ∧
    (p.codeCfgAdc ≠ p.codeCfgDma ∧ p.codeTriggerAdc ≠ p.codeCfgDma ∧ p.codeReadAdc ≠ p.codeCfgDma) ∧
    (p.codeTriggerAdc ≠ p.codeCfgAdc ∧ p.codeReadAdc ≠ p.codeCfgAdc) ∧ p.codeReadAdc ≠ p.codeTriggerAdc := by
  obtain ⟨-, -, -, hnodup⟩ := (params_wf_iff p).1 h
  simpa [Params.codes, eq_comm] using hnodup

/-- Each accepted frame is that of the operation it decodes to. -/
theorem encode_of_decodeCommand {p : Params} {now : Nat} {code : Word} {args : List Word} {i : Instr}
    (h : decodeCommand p now code args = .ok i) : encode p i = .req (frame code args) := by
  unfold decodeCommand at h
  split_ifs at h with hgpio
  · subst hgpio
    split at h <;> cases h <;> rfl
  all_goals
    obtain rfl := List.isEmpty_iff.1 ‹args.isEmpty = true›
    cases h
    subst code
    rfl

theorem decodeCommand_of_unknown {p : Params} {code : Word} (now : Nat) (args : List Word) (h : code ∉ p.codes) :
    decodeCommand p now code args = .error .unknownCode := by
  simp only [Params.codes, List.mem_cons, List.not_mem_nil, or_false, not_or] at h
  obtain ⟨hgpio, hdma, hadc, htrigger, hread⟩ := h
  simp only [decodeCommand, if_neg hgpio, if_neg hdma, if_neg hadc, if_neg htrigger, if_neg hread]

/-! ### SC16 pairs -/

/-- The top four bits of a byte are 0 exactly where it is below 16. -/
theorem highNibble_eq_zero_iff (b : Byte) : b.extractLsb' 4 4 = 0 ↔ b.toNat < 16 := by
  have := b.isLt
  rw [← BitVec.toNat_inj]
  simp [Nat.shiftRight_eq_div_pow]
  omega

/-- An SC16 pair decodes exactly to the samples whose PACK16 it is (R141). -/
theorem decodeSc16_eq_ok_iff (b0 b1 b2 b3 : Byte) (i : Instr) :
    decodeSc16 b0 b1 b2 b3 = .ok i ↔ ∃ si sq, i = .pack16 si sq ∧ [b0, b1, b2, b3] = pack16 si sq := by
  constructor
  · intro h
    unfold decodeSc16 at h
    split at h
    case isTrue hzero =>
      obtain ⟨h1, h3⟩ := hzero
      refine ⟨_, _, (Except.ok.inj h).symm, ?_⟩
      rw [pack16ZeroExtendsAndInterleaves, BitVec.extractLsb'_append_eq_right, BitVec.extractLsb'_append_eq_left,
        BitVec.extractLsb'_append_eq_right, BitVec.extractLsb'_append_eq_left]
      nth_rw 1 [← h1]
      rw [← h3, fields_append (m := 4) (n := 4), fields_append (m := 4) (n := 4)]
    case isFalse => cases h
  · rintro ⟨si, sq, rfl, h⟩
    rw [pack16ZeroExtendsAndInterleaves] at h
    cases h
    rw [decodeSc16, BitVec.extractLsb'_append_eq_left, BitVec.extractLsb'_append_eq_left, if_pos ⟨rfl, rfl⟩,
      BitVec.extractLsb'_append_eq_right, BitVec.extractLsb'_append_eq_right, fields_append (m := 4) (n := 8),
      fields_append (m := 4) (n := 8)]

theorem decodeSc16_of_high_bits {b1 b3 : Byte} (b0 b2 : Byte) (h : 16 ≤ b1.toNat ∨ 16 ≤ b3.toNat) :
    decodeSc16 b0 b1 b2 b3 = .error .badSc16 := by
  rw [decodeSc16, if_neg]
  rw [highNibble_eq_zero_iff, highNibble_eq_zero_iff]
  omega

/-! ### The decoder and the encoder -/

/-- Settles O8: the frames decode by the distinctness of the codes (R9), the pair by the fields of its words, and the other
encodings by their format. -/
theorem decodeUndoesEncode : Obligations.DecodeUndoesEncode := by
  intro p i hp _
  obtain ⟨⟨hdma, hadc, htrigger, hread⟩, ⟨hadc_dma, htrigger_dma, hread_dma⟩, ⟨htrigger_adc, hread_adc⟩,
    hread_trigger⟩ := codes_ne_of_wf hp
  cases i with
  | cfgGpioPin | cfgGpioPinValue => simp [encode, decode_req_frame, decodeCommand]
  | cfgDma => simp [encode, decode_req_frame, decodeCommand, hdma]
  | cfgAdc => simp [encode, decode_req_frame, decodeCommand, hadc, hadc_dma]
  | triggerAdc => simp [encode, decode_req_frame, decodeCommand, htrigger, htrigger_dma, htrigger_adc]
  | readAdc now =>
    simp [encode, decode_req_frame, decodeCommand, hread, hread_dma, hread_adc, hread_trigger, Instr.timeInput]
  | pack16 si sq => exact (decodeSc16_eq_ok_iff _ _ _ _ _).2 ⟨si, sq, rfl, rfl⟩
  | validate | unpack | streamChunk | cancel | reset => rfl

/-- Settles O9: a REQ is the frame of what it decodes to, an SC12 sequence the bytes of its triplet, and an SC16 pair the
PACK16 of its samples. -/
theorem encodeUndoesDecode : Obligations.EncodeUndoesDecode := by
  refine fun p now b i => ⟨fun h => ?_, fun h => ?_, fun h => ?_⟩
  · obtain ⟨code, args, rfl, hcommand⟩ := decode_req_eq_ok h
    exact encode_of_decodeCommand hcommand
  · simp only [decode] at h
    split at h <;> cases h
    rfl
  · simp only [decode] at h
    split at h
    · obtain ⟨si, sq, rfl, hb⟩ := (decodeSc16_eq_ok_iff _ _ _ _ _).1 h
      rw [hb]
      rfl
    · cases h

theorem decode_req_of_length (p : Params) (now : Nat) {b : List Byte} (h : ¬ ∃ k : Nat, b.length = 4 * (1 + k)) :
    decode p now (.req b) = .error .badLength := by
  rw [← parse_isSome_iff, Bool.not_eq_true, Option.isSome_eq_false_iff, Option.isNone_iff_eq_none] at h
  simp only [decode, h]

theorem decode_sc12_of_length (p : Params) (now : Nat) {b : List Byte} (h : b.length ≠ 3) :
    decode p now (.sc12 b) = .error .badLength := by
  rw [decode]
  rintro b0 b1 b2 rfl
  exact h rfl

theorem decode_sc16_of_length (p : Params) (now : Nat) {b : List Byte} (h : b.length ≠ 4) :
    decode p now (.sc16 b) = .error .badLength := by
  rw [decode]
  rintro b0 b1 b2 b3 rfl
  exact h rfl

/-- Settles O10: one clause to a format's length, and the two checks behind a good length. -/
theorem reservedEncodingsAreRefused : Obligations.ReservedEncodingsAreRefused := fun p now =>
  ⟨fun code args h => (decode_req_frame p now code args).trans (decodeCommand_of_unknown now args h),
    fun _ h => decode_req_of_length p now h, fun _ h => decode_sc12_of_length p now h,
    fun _ h => decode_sc16_of_length p now h, fun _ h => if_neg h, fun b0 _ b2 _ h => decodeSc16_of_high_bits b0 b2 h⟩

/-- Settles O11: the five rows, evaluated under the codes of `State.reset`. -/
theorem sampleWordsDecode : Obligations.SampleWordsDecode := by
  unfold Obligations.SampleWordsDecode
  decide

end Sys2Proof

/-! PROOFS. The streaming iteration (41_stream_decoder.md R145, R146) and what runs of iterations give: carry-over (R147), the
replay of RAW (60_exceptions.md R208) and the synthetic clock (R150). -/

namespace Sys2Proof.Machine

/-! ### UNPACK and PACK16 taken on their own -/

/-- Settles O25: the pair of UNPACK is the fields of the triplet. -/
theorem unpackCompletes : Obligations.UnpackCompletes := by
  intro s b0 b1 b2
  rw [exec, execUnpack, unpackTakesTheTripletFields]

/-- Settles O26: the bytes of PACK16 are those of its two zero-extended words. -/
theorem pack16Completes : Obligations.Pack16Completes := by
  intro s i q
  rw [exec, execPack16, pack16ZeroExtendsAndInterleaves]

/-! ### One iteration -/

theorem exec_streamChunk_of_streaming {s : State} (now : Nat) (h : s.phase = .streaming) :
    exec (.streamChunk now) s = .next (streamIteration now s) :=
  if_pos h

/-- Settles O30: the guard of `execStreamChunk` is PHASE. -/
theorem streamChunkNeedsStreaming : Obligations.StreamChunkNeedsStreaming := fun _ _ h =>
  if_neg h

/-- Settles O29: a failed read is the TransportError in the state after a read of no byte. -/
theorem streamChunkWithFailedRead : Obligations.StreamChunkWithFailedRead := by
  intro s now hp hrx
  rw [exec_streamChunk_of_streaming now hp, streamIteration_of_fail now hrx, raiseTransport_eq]
  rfl

/-- The chunk of an iteration absorbed, by the lengths of R143. -/
theorem absorbChunk_eq_drop (chunk : List Byte) (s : State) :
    absorbChunk chunk s =
      { s with
        residue := (s.residue ++ chunk).drop (3 * ((s.residue ++ chunk).length / 3))
        out := s.out ++ sc16Of (s.residue ++ chunk)
        raw := if s.params.rawTapEn then s.raw ++ chunk else s.raw
        pairCount := s.pairCount + BitVec.ofNat 32 ((s.residue ++ chunk).length / 3) } := by
  rw [absorbChunk_eq, restOf_eq_drop, pairsOf_length]

@[simp] theorem absorbChunk_windowStart (chunk : List Byte) (s : State) :
    (absorbChunk chunk s).windowStart = s.windowStart := by
  rw [absorbChunk_eq]

@[simp] theorem absorbChunk_rx (chunk : List Byte) (s : State) : (absorbChunk chunk s).rx = s.rx := by
  rw [absorbChunk_eq]

@[simp] theorem absorbChunk_rxAnswers (chunk : List Byte) (s : State) :
    (absorbChunk chunk s).rxAnswers = s.rxAnswers := by
  rw [absorbChunk_eq]

@[simp] theorem absorbChunk_diag (chunk : List Byte) (s : State) : (absorbChunk chunk s).diag = s.diag := by
  rw [absorbChunk_eq]

/-- Settles O27: before the end of the window the throughput check leaves what the chunk gave. -/
theorem streamChunkWithoutReport : Obligations.StreamChunkWithoutReport := by
  intro s now k hp hrx hnow
  rw [exec_streamChunk_of_streaming now hp, streamIteration_of_upTo now hrx, throughputCheck_of_lt (by simpa using hnow),
    absorbChunk_eq_drop]
  rfl

/-- Settles O28: at the end of the window the throughput check reports what the chunk gave. -/
theorem streamChunkWithReport : Obligations.StreamChunkWithReport := by
  intro s now k _ hp hrx hnow
  rw [exec_streamChunk_of_streaming now hp, streamIteration_of_upTo now hrx, throughputCheck_of_le (by simpa using hnow),
    absorbChunk_eq_drop]
  rfl

/-! ### The data fields through the throughput check -/

@[simp] theorem throughputCheck_out (now : Nat) (s : State) : (throughputCheck now s).out = s.out := by
  unfold throughputCheck; split <;> rfl

@[simp] theorem throughputCheck_raw (now : Nat) (s : State) : (throughputCheck now s).raw = s.raw := by
  unfold throughputCheck; split <;> rfl

@[simp] theorem throughputCheck_residue (now : Nat) (s : State) : (throughputCheck now s).residue = s.residue := by
  unfold throughputCheck; split <;> rfl

@[simp] theorem throughputCheck_rx (now : Nat) (s : State) : (throughputCheck now s).rx = s.rx := by
  unfold throughputCheck; split <;> rfl

@[simp] theorem throughputCheck_rxAnswers (now : Nat) (s : State) :
    (throughputCheck now s).rxAnswers = s.rxAnswers := by
  unfold throughputCheck; split <;> rfl

/-! ### An empty chunk -/

theorem sc16Of_of_length_lt {buf : List Byte} (h : buf.length < 3) : sc16Of buf = [] := by
  rw [sc16Of, pairsOf_of_length_lt h, List.flatMap_nil]

/-- With no byte read the residue, at most 2 bytes, completes no triplet. -/
theorem absorbChunk_nil {s : State} (h : s.residue.length < 3) : absorbChunk [] s = s := by
  rw [absorbChunk_eq, List.append_nil, restOf_of_length_lt h, sc16Of_of_length_lt h, pairsOf_of_length_lt h]
  simp

/-- Settles O31: an empty chunk changes nothing (`absorbChunk_nil`), so the iteration is its throughput check. -/
theorem emptyReadIsHarmless : Obligations.EmptyReadIsHarmless := by
  intro s t now k hinv hp hrx hempty h
  obtain ⟨hresidue, -, -⟩ := hinv
  rw [exec_streamChunk_of_streaming now hp, streamIteration_of_upTo now hrx, hempty,
    absorbChunk_nil (s := s.afterRx _) (Nat.lt_succ_of_le hresidue)] at h
  cases h
  refine ⟨by simp, by simp, by simp, by simp [hp], ?_⟩
  split
  case isTrue hle => rw [throughputCheck_of_le (s := s.afterRx _) hle]; exact ⟨rfl, rfl⟩
  case isFalse hlt => rw [throughputCheck_of_lt (s := s.afterRx _) (Nat.not_le.1 hlt)]; exact ⟨rfl, rfl⟩

/-! ### Runs of iterations -/

theorem runChunks_nil {s t : State} (h : runChunks [] s = .next t) : t = s := by
  cases h
  rfl

/-- The first iteration of a run: it is enabled, and the others run from where it ends. -/
theorem runChunks_cons {now : Nat} {ticks : List Nat} {s t : State} (h : runChunks (now :: ticks) s = .next t) :
    s.phase = .streaming ∧ runChunks ticks (streamIteration now s) = .next t := by
  by_cases hp : s.phase = .streaming
  · refine ⟨hp, ?_⟩
    simpa only [runChunks, List.map_cons, runOps, exec_streamChunk_of_streaming now hp] using h
  · simp only [runChunks, List.map_cons, runOps, streamChunkNeedsStreaming s now hp] at h
    cases h

/-- A run that ends in STREAMING starts there, since an iteration is enabled nowhere else. -/
theorem streaming_of_runChunks {ticks : List Nat} {s t : State} (h : runChunks ticks s = .next t)
    (ht : t.phase = .streaming) : s.phase = .streaming := by
  cases ticks with
  | nil => rwa [← runChunks_nil h]
  | cons now ticks => exact (runChunks_cons h).1

/-- The first iteration of a run that ends in STREAMING: its read did not fail. -/
theorem runChunks_cons_streaming {now : Nat} {ticks : List Nat} {s t : State}
    (h : runChunks (now :: ticks) s = .next t) (ht : t.phase = .streaming) :
    ∃ k, runChunks ticks (throughputCheck now
      (absorbChunk (s.arrived.take (min k s.params.chunkSize)) (s.afterRx (min k s.params.chunkSize)))) = .next t := by
  obtain ⟨-, hrest⟩ := runChunks_cons h
  obtain ⟨-, heq⟩ | ⟨k, -, heq⟩ := streamIteration_cases now s
  · have hfault := streaming_of_runChunks hrest ht
    rw [heq] at hfault
    cases hfault
  · exact ⟨k, heq ▸ hrest⟩

theorem runChunks_append {ticks ticks' : List Nat} {s t : State} (h : runChunks (ticks ++ ticks') s = .next t) :
    ∃ u, runChunks ticks s = .next u ∧ runChunks ticks' u = .next t := by
  induction ticks generalizing s with
  | nil => exact ⟨s, rfl, h⟩
  | cons now ticks ih =>
    obtain ⟨hp, hrest⟩ := runChunks_cons h
    obtain ⟨u, hu, ht⟩ := ih hrest
    refine ⟨u, ?_, ht⟩
    simpa only [runChunks, List.map_cons, runOps, exec_streamChunk_of_streaming now hp] using hu

/-! ### Carry-over -/

/-- From `s` to `t` the bytes `S` were decoded after the residue, and tapped where the tap is on (R147, R59). -/
structure Carried (s t : State) (S : List Byte) : Prop where
  out : t.out = s.out ++ sc16Of (s.residue ++ S)
  residue : t.residue = restOf (s.residue ++ S)
  raw : t.raw = if s.params.rawTapEn then s.raw ++ S else s.raw
  params : t.params = s.params

theorem Carried.refl {s : State} (h : s.residue.length < 3) : Carried s s [] where
  out := by simp [sc16Of_of_length_lt h]
  residue := by simp [restOf_of_length_lt h]
  raw := by simp
  params := rfl

/-- R147's step: the remainder of what came before is carried over to what comes after (R143). -/
theorem Carried.trans {s u t : State} {S S' : List Byte} (h : Carried s u S) (h' : Carried u t S') :
    Carried s t (S ++ S') where
  out := by rw [h'.out, h.out, h.residue, List.append_assoc, ← sc16Of_append, List.append_assoc]
  residue := by rw [h'.residue, h.residue, ← restOf_append, List.append_assoc]
  raw := by
    rw [h'.raw, h.raw, h.params]
    split <;> simp
  params := h'.params.trans h.params

theorem carried_absorbChunk (now k : Nat) (chunk : List Byte) (s : State) :
    Carried s (throughputCheck now (absorbChunk chunk (s.afterRx k))) chunk where
  out := by rw [throughputCheck_out, absorbChunk_eq]; rfl
  residue := by rw [throughputCheck_residue, absorbChunk_eq]; rfl
  raw := by rw [throughputCheck_raw, absorbChunk_eq]; rfl
  params := by simp

theorem restOf_length_lt (buf : List Byte) : (restOf buf).length < 3 := by
  rw [restOf_eq_drop, List.length_drop]
  omega

/-- While the script lasts, RX is all that has arrived. -/
theorem arrived_of_script {s : State} (h : 0 < s.rxAnswers.length) : s.arrived = s.rx := by
  unfold State.arrived
  split
  · rfl
  · simp_all

/-- R147: by induction on the iterations, each carrying its chunk over. A scripted read takes its bytes from the head of
RX. -/
theorem runChunks_carried {ticks : List Nat} {s t : State} (hs : s.residue.length < 3)
    (h : runChunks ticks s = .next t) (ht : t.phase = .streaming) :
    ∃ S, Carried s t S ∧ (ticks.length ≤ s.rxAnswers.length → s.rx = S ++ t.rx) := by
  induction ticks generalizing s with
  | nil =>
    obtain rfl := runChunks_nil h
    exact ⟨[], .refl hs, fun _ => rfl⟩
  | cons now ticks ih =>
    obtain ⟨k, hrest⟩ := runChunks_cons_streaming h ht
    have hfirst := carried_absorbChunk now (min k s.params.chunkSize) (s.arrived.take (min k s.params.chunkSize)) s
    obtain ⟨S, hcarried, hrx⟩ := ih (by rw [hfirst.residue]; exact restOf_length_lt _) hrest
    refine ⟨_, hfirst.trans hcarried, fun hscript => ?_⟩
    rw [List.length_cons] at hscript
    have hrest := hrx (by simp; omega)
    rw [throughputCheck_rx, absorbChunk_rx, afterRx_rx] at hrest
    rw [List.append_assoc, ← hrest, List.take_append_drop, arrived_of_script (by omega)]

/-- Settles O32: the invariant's bound on the residue is what `runChunks_carried` needs. -/
theorem carryOverEquivalence : Obligations.CarryOverEquivalence := by
  intro ticks s t hinv h _ ht
  obtain ⟨hresidue, -, -⟩ := hinv
  obtain ⟨S, hcarried, hrx⟩ := runChunks_carried (Nat.lt_succ_of_le hresidue) h ht
  exact ⟨S, hcarried.out, hcarried.residue, hcarried.raw, hrx⟩

/-- From an empty residue, with the tap on, what RAW got tells what OUT got and what residue is left. -/
theorem runChunks_of_raw {ticks : List Nat} {s t : State} {S : List Byte} (h : runChunks ticks s = .next t)
    (ht : t.phase = .streaming) (htap : s.params.rawTapEn = true) (hs : s.residue = []) (hraw : t.raw = s.raw ++ S) :
    t.out = s.out ++ sc16Of S ∧ t.residue = restOf S := by
  obtain ⟨S', hcarried, -⟩ := runChunks_carried (by simp [hs]) h ht
  have hS : S' = S := by simpa [htap, hraw, eq_comm] using hcarried.raw
  exact ⟨by simpa [hs, hS] using hcarried.out, by simpa [hs, hS] using hcarried.residue⟩

/-- Settles O33: in both runs the decode of the bytes RAW got. -/
theorem replayOfRawReproducesOut : Obligations.ReplayOfRawReproducesOut := by
  intro ticks ticks' s t s' t' S h h' _ ht _ ht' htap htap' hs hs' hraw hraw'
  obtain ⟨hout, hresidue⟩ := runChunks_of_raw h ht htap hs hraw
  obtain ⟨hout', hresidue'⟩ := runChunks_of_raw h' ht' htap' hs' hraw'
  exact ⟨sc16Of S, hout, hout', hresidue.trans hresidue'.symm⟩

/-! ### The synthetic clock -/

/-- From `s` to `t` `m` pairs were decoded and counted, and nothing was reported: one window goes on. -/
structure Counted (s t : State) (m : Nat) : Prop where
  out : t.out.length = s.out.length + 4 * m
  pairCount : t.pairCount = s.pairCount + BitVec.ofNat 32 m
  windowStart : t.windowStart = s.windowStart
  diag : t.diag = s.diag
  params : t.params = s.params

theorem Counted.refl (s : State) : Counted s s 0 where
  out := rfl
  pairCount := (BitVec.add_zero _).symm
  windowStart := rfl
  diag := rfl
  params := rfl

theorem Counted.trans {s u t : State} {m m' : Nat} (h : Counted s u m) (h' : Counted u t m') :
    Counted s t (m + m') where
  out := by rw [h'.out, h.out]; omega
  pairCount := by rw [h'.pairCount, h.pairCount, BitVec.ofNat_add, BitVec.add_assoc]
  windowStart := h'.windowStart.trans h.windowStart
  diag := h'.diag.trans h.diag
  params := h'.params.trans h.params

theorem counted_absorbChunk (k : Nat) (chunk : List Byte) (s : State) :
    Counted s (absorbChunk chunk (s.afterRx k)) ((s.residue ++ chunk).length / 3) where
  out := by simp [absorbChunk_eq, sc16Of_length]
  pairCount := by simp [absorbChunk_eq, pairsOf_length]
  windowStart := by simp
  diag := by simp
  params := by simp

/-- Iterations before the end of the window only decode and count. -/
theorem runChunks_counted {ticks : List Nat} {s t : State}
    (hticks : ∀ x ∈ ticks, x < s.windowStart + s.params.reportInterval) (h : runChunks ticks s = .next t)
    (ht : t.phase = .streaming) : ∃ m, Counted s t m := by
  induction ticks generalizing s with
  | nil =>
    obtain rfl := runChunks_nil h
    exact ⟨0, .refl t⟩
  | cons now ticks ih =>
    obtain ⟨k, hrest⟩ := runChunks_cons_streaming h ht
    have hfirst := counted_absorbChunk (min k s.params.chunkSize) (s.arrived.take (min k s.params.chunkSize)) s
    obtain ⟨hnow, hlater⟩ := List.forall_mem_cons.1 hticks
    rw [throughputCheck_of_lt (by rwa [hfirst.windowStart, hfirst.params])] at hrest
    obtain ⟨m, hcounted⟩ := ih (by rwa [hfirst.windowStart, hfirst.params]) hrest
    exact ⟨_, hfirst.trans hcounted⟩

/-- One second after the window's start the rate of `n` pairs is `n` (R146). -/
theorem throughputCheck_of_second {s : State} {n : Nat} (hticks : 0 < s.params.tickHz)
    (hsecond : s.params.reportInterval = s.params.tickHz) (hcount : s.pairCount = BitVec.ofNat 32 n)
    (hn : n < 2 ^ 32) :
    throughputCheck (s.windowStart + s.params.reportInterval) s =
      { s with
        lastRate := BitVec.ofNat 32 n
        diag := s.diag ++ [.report n]
        pairCount := 0
        windowStart := s.windowStart + s.params.reportInterval } := by
  have hrate : s.pairCount.toNat * s.params.tickHz / (s.windowStart + s.params.reportInterval - s.windowStart) = n := by
    rw [hcount, BitVec.toNat_ofNat, Nat.mod_eq_of_lt hn, Nat.add_sub_cancel_left, hsecond, Nat.mul_div_cancel n hticks]
  rw [throughputCheck_of_le (Nat.le_refl _), hrate]

/-- With one more iteration the run ends in the throughput check of that window. -/
theorem runChunks_counted_last {ticks : List Nat} {last : Nat} {s t : State}
    (hticks : ∀ x ∈ ticks, x < s.windowStart + s.params.reportInterval) (h : runChunks (ticks ++ [last]) s = .next t)
    (ht : t.phase = .streaming) : ∃ v n, Counted s v n ∧ t = throughputCheck last v := by
  obtain ⟨u, hu, hlast⟩ := runChunks_append h
  obtain ⟨m, hbefore⟩ := runChunks_counted hticks hu (streaming_of_runChunks hlast ht)
  obtain ⟨k, hend⟩ := runChunks_cons_streaming hlast ht
  exact ⟨_, _, hbefore.trans (counted_absorbChunk _ _ u), runChunks_nil hend⟩

/-- Settles O34: up to the last throughput check one window goes on, `n` pairs in it by the length of OUT; there their rate
is `n` (`throughputCheck_of_second`). -/
theorem syntheticClockReportsOnce : Obligations.SyntheticClockReportsOnce := by
  intro ticks s t n hwf hsecond _ hzero hticks h ht hout hn
  obtain ⟨-, hpos, -, -⟩ := (params_wf_iff _).1 hwf
  obtain ⟨v, m, hcounted, rfl⟩ := runChunks_counted_last hticks h ht
  obtain rfl : m = n := by
    rw [throughputCheck_out, hcounted.out] at hout
    omega
  have hcount : v.pairCount = BitVec.ofNat 32 m := by rw [hcounted.pairCount, hzero]; exact BitVec.zero_add _
  rw [← hcounted.params] at hpos hsecond
  rw [← hcounted.windowStart, ← hcounted.params, ← hcounted.diag,
    throughputCheck_of_second hpos hsecond hcount hn]
  exact ⟨rfl, rfl, rfl, rfl⟩

end Sys2Proof.Machine

/-! PROOFS. The command channel: VALIDATE on a complete and on a short response (40_command_channel.md R118), and the commands
built on it (R112, R119 to R124). -/

namespace Sys2Proof.Machine

/-! ### The bytes of a response -/

/-- A word of a buffer cut off behind it. -/
theorem le32At_take (b : List Byte) {i n : Nat} (h : i + 3 < n) : le32At (b.take n) i = le32At b i := by
  have hget (j : Nat) (hj : j < n) : (b.take n).getD j 0 = b.getD j 0 := by
    rw [List.getD_eq_getElem?_getD, List.getElem?_take_of_lt hj, List.getD_eq_getElem?_getD]
  rw [le32At, hget i (by omega), hget (i + 1) (by omega), hget (i + 2) (by omega), hget (i + 3) h]
  rfl

/-- Where 8 bytes arrived, the read took 8 and the words of the response are the first two of them. -/
theorem words_of_complete {b : List Byte} {k : Nat} (h : (b.take (min k 8)).length = 8) :
    min k 8 = 8 ∧ respEcho (b.take (min k 8)) = le32At b 0 ∧ respStatusWord (b.take (min k 8)) = le32At b 4 := by
  have hk : min k 8 = 8 := by rw [List.length_take] at h; omega
  rw [hk]
  exact ⟨rfl, le32At_take b (by decide), le32At_take b (by decide)⟩

/-- The response fields of 8 bytes: both words, and the two comparisons. -/
theorem recordResponse_of_complete (code : Word) {b : List Byte} (s : State) (h : b.length = 8) :
    recordResponse code b s =
      { s with
        respLen := 8
        respValid := true
        respCode := respEcho b
        respStatus := respStatusWord b
        sizeErr := false
        codeErr := decide (respEcho b ≠ code)
        statusErr := decide (respStatusWord b ≠ 0) } := by
  have hsize : sizeErrOf b = false := by simp [sizeErrOf, Config.respLen, h]
  simp [recordResponse, codeErrOf, statusErrOf, hsize, h, bne, beq_eq_decide]

/-- The response fields of fewer than 8 bytes: their number and SIZE_ERR alone. -/
theorem recordResponse_of_short (code : Word) {b : List Byte} (s : State) (h : b.length < 8) :
    recordResponse code b s =
      { s with
        respLen := BitVec.ofNat 4 b.length
        respValid := true
        sizeErr := true
        codeErr := false
        statusErr := false } := by
  have hsize : sizeErrOf b = true := by simp [sizeErrOf, Config.respLen, h]
  simp [recordResponse, codeErrOf, statusErrOf, hsize]

theorem reportResponse_of_flag {s : State} (code : Word) (len : Nat)
    (h : s.sizeErr = true ∨ s.codeErr = true ∨ s.statusErr = true) :
    reportResponse code len s = raiseProtocol code len s.sizeErr s.codeErr s.statusErr s :=
  if_pos (by simpa [or_assoc] using h)

theorem reportResponse_of_no_flag {s : State} (code : Word) (len : Nat) (hsize : s.sizeErr = false)
    (hcode : s.codeErr = false) (hstatus : s.statusErr = false) : reportResponse code len s = s :=
  if_neg (by simp [hsize, hcode, hstatus])

/-! ### VALIDATE -/

/-- VALIDATE on 8 bytes of the sent code and status 0. -/
theorem validate_of_clean {s : State} {k : Nat} {code : Word} (hrx : s.nextRx = .upTo k)
    (h : (s.arrived.take (min k 8)).length = 8) (hcode : le32At s.arrived 0 = code) (hstatus : le32At s.arrived 4 = 0) :
    validate code s =
      { s with
        rx := s.arrived.drop 8
        rxAnswers := s.rxAnswers.tail
        rxCount := s.rxCount + 1
        respLen := 8
        respValid := true
        respCode := code
        respStatus := 0
        sizeErr := false
        codeErr := false
        statusErr := false } := by
  obtain ⟨hk, hecho, hword⟩ := words_of_complete h
  rw [validate_of_upTo code hrx, recordResponse_of_complete code _ h, hecho, hword, hcode, hstatus, hk,
    reportResponse_of_no_flag]
  · simp [State.afterRx]
  · rfl
  · simp
  · simp

/-- VALIDATE on 8 bytes with a wrong word: both are recorded, and one ProtocolError is raised. -/
theorem validate_of_wrong {s : State} {k : Nat} {code : Word} (hrx : s.nextRx = .upTo k)
    (h : (s.arrived.take (min k 8)).length = 8) (hwrong : le32At s.arrived 0 ≠ code ∨ le32At s.arrived 4 ≠ 0) :
    validate code s =
      { s with
        rx := s.arrived.drop 8
        rxAnswers := s.rxAnswers.tail
        rxCount := s.rxCount + 1
        respLen := 8
        respValid := true
        respCode := le32At s.arrived 0
        respStatus := le32At s.arrived 4
        sizeErr := false
        codeErr := decide (le32At s.arrived 0 ≠ code)
        statusErr := decide (le32At s.arrived 4 ≠ 0)
        protoErrCount := s.protoErrCount + 1
        lastCause := if le32At s.arrived 0 ≠ code then .protoCode else .protoStatus
        diag := s.diag ++ [.protocolError code 8 (some (le32At s.arrived 0)) (some (le32At s.arrived 4)) false
          (decide (le32At s.arrived 0 ≠ code)) (decide (le32At s.arrived 4 ≠ 0))] } := by
  obtain ⟨hk, hecho, hword⟩ := words_of_complete h
  have hcause : protoCause false (decide (le32At s.arrived 0 ≠ code)) =
      if le32At s.arrived 0 ≠ code then .protoCode else .protoStatus := by simp [protoCause]
  rw [validate_of_upTo code hrx, recordResponse_of_complete code _ h, hecho, hword, h, hk, reportResponse_of_flag,
    raiseProtocol_eq, hcause]
  · rfl
  · simpa using hwrong

/-- VALIDATE on fewer than 8 bytes: they are consumed, and the size error is raised. -/
theorem validate_of_short {s : State} {k : Nat} (code : Word) (hrx : s.nextRx = .upTo k)
    (h : (s.arrived.take (min k 8)).length < 8) :
    validate code s =
      { s with
        rx := s.arrived.drop (min k 8)
        rxAnswers := s.rxAnswers.tail
        rxCount := s.rxCount + 1
        respLen := BitVec.ofNat 4 (s.arrived.take (min k 8)).length
        respValid := true
        sizeErr := true
        codeErr := false
        statusErr := false
        protoErrCount := s.protoErrCount + 1
        lastCause := .protoSize
        diag := s.diag ++ [.protocolError code (s.arrived.take (min k 8)).length none none true false false] } := by
  rw [validate_of_upTo code hrx, recordResponse_of_short code _ h, reportResponse_of_flag _ _ (.inl rfl),
    raiseProtocol_eq, if_neg (Nat.ne_of_lt h), if_neg (Nat.ne_of_lt h)]
  rfl

/-- Settles O19: VALIDATE taken on its own compares with LAST_CODE; the response is clean or wrong. -/
theorem validateComparesACompleteResponse : Obligations.ValidateComparesACompleteResponse := by
  intro s k hrx h
  by_cases hclean : le32At s.arrived 0 = s.lastCode ∧ le32At s.arrived 4 = 0
  · obtain ⟨hcode, hstatus⟩ := hclean
    rw [exec, execValidate, validate_of_clean hrx h hcode hstatus]
    simp [hcode, hstatus]
  · have hwrong := not_and_or.1 hclean
    have hcause : (if le32At s.arrived 0 ≠ s.lastCode then Cause.protoCode
        else if le32At s.arrived 4 ≠ 0 then .protoStatus else s.lastCause) =
        if le32At s.arrived 0 ≠ s.lastCode then .protoCode else .protoStatus := by
      split
      · rfl
      · exact if_pos (hwrong.resolve_left ‹_›)
    rw [exec, execValidate, validate_of_wrong hrx h hwrong, if_neg hclean, if_neg hclean, hcause]

/-- Settles O20: VALIDATE taken on its own is `validate` of LAST_CODE. -/
theorem validateReportsAShortResponse : Obligations.ValidateReportsAShortResponse := fun s _ hrx h =>
  congrArg Host.Outcome.next (validate_of_short s.lastCode hrx h)

/-- The TransportError of a failed response read, in the state after a read of no byte. -/
theorem validate_of_failed_read {s : State} (code : Word) (h : s.nextRx = .fail) :
    validate code s =
      { s with
        rx := s.arrived
        rxAnswers := s.rxAnswers.tail
        rxCount := s.rxCount + 1
        residue := []
        phase := .fault
        lastCause := .transport
        diag := s.diag ++ (if s.residue = [] then [] else [.framingDiscard s.residue.length]) ++
          [.transportError .read] } := by
  rw [validate_of_fail code h, raiseTransport_eq]
  rfl

/-- Settles O21: the response fields are not among those a TransportError writes. -/
theorem validateFailsOnAFailedRead : Obligations.ValidateFailsOnAFailedRead := fun s h =>
  congrArg Host.Outcome.next (validate_of_failed_read s.lastCode h)

/-! ### The commands that read a response -/

/-- Where an accepted command stands before its response: the frame on TX, LAST_CODE its code, PHASE its target (R112,
R113). -/
def State.sent (row : CommandRow) (s : State) : State :=
  { s.afterTx (frame row.code row.args) with lastCode := row.code, phase := row.target }

theorem exec_of_sent {s : State} {i : Instr} {row : CommandRow} (hrow : commandRow s.params i = some row)
    (hacc : accepts s.phase) (htx : s.nextTx = .ok) : exec i s = .next (validate row.code (s.sent row)) := by
  rw [exec_of_commandRow hrow, command_of_sent row hacc htx]
  rfl

/-- Settles O12: `validate_of_clean` in the state SEND left, whose RX and script are as before. -/
theorem commandWithCleanResponse : Obligations.CommandWithCleanResponse := by
  intro s i row k hrow hacc htx hrx h hcode hstatus
  rw [exec_of_sent hrow hacc htx, validate_of_clean (s := s.sent row) hrx h hcode hstatus]
  rfl

/-- Settles O13: `validate_of_wrong` in the state SEND left. -/
theorem commandWithWrongResponse : Obligations.CommandWithWrongResponse := by
  intro s i row k hrow hacc htx hrx h hwrong
  rw [exec_of_sent hrow hacc htx, validate_of_wrong (s := s.sent row) hrx h hwrong]
  rfl

/-- Settles O14: `validate_of_short` in the state SEND left. -/
theorem commandWithShortResponse : Obligations.CommandWithShortResponse := by
  intro s i row k hrow hacc htx hrx h
  rw [exec_of_sent hrow hacc htx, validate_of_short (s := s.sent row) row.code hrx h]
  rfl

/-- Settles O15: `validate_of_failed_read` in the state SEND left. -/
theorem commandWithFailedRead : Obligations.CommandWithFailedRead := by
  intro s i row hrow hacc htx hrx
  rw [exec_of_sent hrow hacc htx, validate_of_failed_read (s := s.sent row) row.code hrx]
  rfl

/-! ### READ_ADC, and a failed write -/

theorem execReadAdc_of_sent {s : State} (now : Nat) (hacc : accepts s.phase) (htx : s.nextTx = .ok) :
    execReadAdc now s = .next (enterStreaming now
      { s.afterTx (frame s.params.codeReadAdc []) with lastCode := s.params.codeReadAdc }) := by
  simp only [execReadAdc, (guardCause_eq_none_iff _).2 hacc, send_of_ok _ _ htx]

theorem execReadAdc_of_failed_write {s : State} (now : Nat) (hacc : accepts s.phase) (htx : s.nextTx = .fail) :
    execReadAdc now s = .next (raiseTransport .write (s.afterTx [])) := by
  simp only [execReadAdc, (guardCause_eq_none_iff _).2 hacc, send_of_fail _ _ htx]

/-- Settles O18: entry to STREAMING in the state SEND leaves. -/
theorem readAdcEntersStreaming : Obligations.ReadAdcEntersStreaming := fun _ now hacc htx =>
  execReadAdc_of_sent now hacc htx

/-- A control operation whose write fails is the TransportError in the state after a write of no byte. -/
theorem exec_of_failed_write {s : State} {i : Instr} {op : Operation} (hname : rejectedName i = some op)
    (hacc : accepts s.phase) (htx : s.nextTx = .fail) : exec i s = .next (raiseTransport .write (s.afterTx [])) := by
  obtain ⟨row, hrow, rfl⟩ | ⟨⟨now, rfl⟩, rfl⟩ := rejectedName_cases s.params hname
  · rw [exec_of_commandRow hrow, command_of_failed_write row hacc htx]
  · exact execReadAdc_of_failed_write now hacc htx

/-- Settles O16: the TransportError written out; a write of no byte leaves TX. -/
theorem commandWithFailedWrite : Obligations.CommandWithFailedWrite := by
  intro s i op hname hacc htx
  rw [exec_of_failed_write hname hacc htx, raiseTransport_eq]
  simp [State.afterTx]

/-! ### Detection -/

/-- Settles O22: a response read without Fail is short, clean or wrong, and in each case VALIDATE's state tells its flags, the
count and the event. -/
theorem detectionIsComplete : Obligations.DetectionIsComplete := by
  intro s t i row k hrow hacc htx hrx h
  cases (exec_of_sent hrow hacc htx).symm.trans h
  intro b
  obtain hshort | hcomplete : b.length < 8 ∨ b.length = 8 := by
    have : b.length ≤ min k 8 := List.length_take_le ..
    omega
  · rw [if_pos (.inl hshort), validate_of_short (s := s.sent row) row.code hrx hshort]
    have hne : b.length ≠ 8 := Nat.ne_of_lt hshort
    exact ⟨by simp [hshort], by simp [hne], by simp [hne], rfl, _, _, _, rfl⟩
  · obtain ⟨-, hecho, hword⟩ : min k 8 = 8 ∧ respEcho b = _ ∧ respStatusWord b = _ := words_of_complete hcomplete
    rw [hecho, hword, hcomplete]
    by_cases hclean : le32At s.arrived 0 = row.code ∧ le32At s.arrived 4 = 0
    · obtain ⟨hcode, hstatus⟩ := hclean
      rw [if_neg (by simp [hcode, hstatus]), validate_of_clean (s := s.sent row) hrx hcomplete hcode hstatus]
      exact ⟨by simp, by simp [hcode], by simp [hstatus], rfl, rfl⟩
    · have hwrong := not_and_or.1 hclean
      rw [if_pos (.inr hwrong), validate_of_wrong (s := s.sent row) hrx hcomplete hwrong]
      exact ⟨by simp, decide_eq_true_iff.trans (and_iff_right rfl).symm,
        decide_eq_true_iff.trans (and_iff_right rfl).symm, rfl, _, _, _, rfl⟩

end Sys2Proof.Machine

/-! PROOFS. The machine: what one operation can do to the state, said once (`Effect`), and from it the invariants, the bounds on
what is reported and sent, and what leaves STREAMING (41_stream_decoder.md R149, 60_exceptions.md R199). -/

namespace Sys2Proof.Machine

/-! ### What an operation can do -/

/-- The states an operation can answer from `s`, one constructor to a way of ending. -/
inductive Effect (s : State) : Instr → State → Prop where
  /-- GUARD rejects a control operation (R111, R197). -/
  | rejected {i : Instr} {op : Operation} {cause : Cause} (hname : rejectedName i = some op)
      (hcause : guardCause s.phase = some cause) : Effect s i (reject op cause s)
  /-- The write of a control operation fails (R112, R195). -/
  | writeFailed {i : Instr} {op : Operation} (hname : rejectedName i = some op) (hacc : accepts s.phase)
      (htx : s.nextTx = .fail) : Effect s i (raiseTransport .write (s.afterTx []))
  /-- A command is written and its response validated (R113, R118). -/
  | commanded {i : Instr} {row : CommandRow} (hrow : commandRow s.params i = some row) (hacc : accepts s.phase)
      (htx : s.nextTx = .ok) : Effect s i (validate row.code (s.sent row))
  /-- READ_ADC is written and STREAMING entered (R124). -/
  | entered {now : Nat} (hacc : accepts s.phase) (htx : s.nextTx = .ok) :
      Effect s (.readAdc now) (enterStreaming now
        { s.afterTx (frame s.params.codeReadAdc []) with lastCode := s.params.codeReadAdc })
  /-- VALIDATE taken on its own (log 6). -/
  | validated : Effect s .validate (validate s.lastCode s)
  /-- UNPACK taken on its own returns its pair (R140, log 7). -/
  | unpacked {b0 b1 b2 : Byte} : Effect s (.unpack b0 b1 b2)
      { s with result := .pair (Machine.unpack b0 b1 b2).1 (Machine.unpack b0 b1 b2).2 }
  /-- PACK16 taken on its own returns its bytes (R141, log 7). -/
  | packed {si sq : Sample} : Effect s (.pack16 si sq) { s with result := .bytes (Machine.pack16 si sq) }
  /-- The read of an iteration fails (R145, R195). -/
  | readFailed {now : Nat} (hp : s.phase = .streaming) (hrx : s.nextRx = .fail) :
      Effect s (.streamChunk now) (raiseTransport .read (s.afterRx 0))
  /-- An iteration absorbs its chunk and checks the throughput (R145, R146). -/
  | absorbed {now k : Nat} (hp : s.phase = .streaming) (hrx : s.nextRx = .upTo k) :
      Effect s (.streamChunk now) (throughputCheck now
        (absorbChunk (s.arrived.take (min k s.params.chunkSize)) (s.afterRx (min k s.params.chunkSize))))
  /-- CANCEL in STREAMING (R174). -/
  | cancelled (hp : s.phase = .streaming) : Effect s .cancel { cancelResidue s with residue := [], phase := .idle }
  /-- CANCEL elsewhere has no effect (R174). -/
  | cancelIgnored (hp : s.phase ≠ .streaming) : Effect s .cancel s
  /-- RESET (R220). -/
  | cleared : Effect s .reset (clearBlock (reportDiscard s))

theorem rejectedName_of_commandRow {p : Params} {i : Instr} {row : CommandRow} (h : commandRow p i = some row) :
    rejectedName i = some row.op := by
  cases i with
  | cfgGpioPin | cfgGpioPinValue | cfgDma | cfgAdc | triggerAdc => cases h; rfl
  | readAdc | validate | unpack | pack16 | streamChunk | cancel | reset => cases h

theorem effect_of_commandRow {s t : State} {i : Instr} {row : CommandRow} (hrow : commandRow s.params i = some row)
    (h : exec i s = .next t) : Effect s i t := by
  cases (exec_of_commandRow hrow).symm.trans h
  obtain ⟨cause, hcause, heq⟩ | ⟨hacc, htx, heq⟩ | ⟨hacc, htx, heq⟩ := command_cases row s
  · rw [heq]
    exact .rejected (rejectedName_of_commandRow hrow) hcause
  · rw [heq]
    exact .writeFailed (rejectedName_of_commandRow hrow) hacc htx
  · rw [heq]
    exact .commanded hrow hacc htx

theorem effect_of_readAdc {s t : State} {now : Nat} (h : execReadAdc now s = .next t) : Effect s (.readAdc now) t := by
  obtain ⟨cause, hcause, heq⟩ | ⟨hacc, htx, heq⟩ | ⟨hacc, htx, heq⟩ := execReadAdc_cases now s
  · cases heq.symm.trans h
    exact .rejected rfl hcause
  · cases heq.symm.trans h
    exact .writeFailed rfl hacc htx
  · cases heq.symm.trans h
    exact .entered hacc htx

theorem effect_of_streamChunk {s t : State} {now : Nat} (h : execStreamChunk now s = .next t) :
    Effect s (.streamChunk now) t := by
  obtain ⟨hp, rfl⟩ := execStreamChunk_next h
  obtain ⟨hrx, heq⟩ | ⟨k, hrx, heq⟩ := streamIteration_cases now s
  · rw [heq]
    exact .readFailed hp hrx
  · rw [heq]
    exact .absorbed hp hrx

theorem effect_of_cancel {s t : State} (h : execCancel s = .next t) : Effect s .cancel t := by
  by_cases hp : s.phase = .streaming
  · cases (execCancel_of_streaming hp).symm.trans h
    exact .cancelled hp
  · cases (execCancel_of_ne_streaming hp).symm.trans h
    exact .cancelIgnored hp

/-- Every next state of an operation is one of `Effect`. -/
theorem effect_of_exec {s t : State} {i : Instr} (h : exec i s = .next t) : Effect s i t := by
  cases i with
  | cfgGpioPin | cfgGpioPinValue | cfgDma | cfgAdc | triggerAdc => exact effect_of_commandRow rfl h
  | readAdc now => exact effect_of_readAdc h
  | validate => cases h; exact .validated
  | unpack => cases h; exact .unpacked
  | pack16 => cases h; exact .packed
  | streamChunk now => exact effect_of_streamChunk h
  | cancel => exact effect_of_cancel h
  | reset => cases h; exact .cleared

/-! ### The invariant of the block -/

/-- Without a residue the invariant is that of the response fields. -/
theorem blockInv_of_residue_nil {s : State} (hresidue : s.residue = []) (hresp : ResponseConsistent s) : BlockInv s :=
  ⟨by simp [hresidue], fun _ => hresidue, hresp⟩

/-- A TransportError leaves the response fields (R195) and no residue. -/
theorem blockInv_raiseTransport {s : State} (dir : Direction) (h : ResponseConsistent s) :
    BlockInv (raiseTransport dir s) := by
  rw [raiseTransport_eq]
  exact blockInv_of_residue_nil rfl h

/-- The response fields of at most 8 bytes agree, whatever they were before. -/
theorem responseConsistent_recordResponse (code : Word) {b : List Byte} (s : State) (h : b.length ≤ 8) :
    ResponseConsistent (recordResponse code b s) := by
  obtain hshort | hcomplete := Nat.lt_or_eq_of_le h
  · rw [recordResponse_of_short code s hshort]
    have hlen : (BitVec.ofNat 4 b.length).toNat = b.length := by
      rw [BitVec.toNat_ofNat]
      omega
    simp [ResponseConsistent, hlen, hshort, h]
  · rw [recordResponse_of_complete code s hcomplete]
    simp [ResponseConsistent, bne, beq_eq_decide]

/-- The ProtocolError writes none of the fields that must agree once a response was validated. -/
theorem responseConsistent_reportResponse {s : State} (code : Word) (len : Nat) (hvalid : s.respValid = true)
    (h : ResponseConsistent s) : ResponseConsistent (reportResponse code len s) := by
  obtain ⟨hlen, -, hsize, hexcl, hstatus⟩ := h
  unfold reportResponse
  split
  · rw [raiseProtocol_eq]
    exact ⟨hlen, fun hnot => absurd (hvalid.symm.trans hnot) (by decide), hsize, hexcl, hstatus⟩
  · exact ⟨hlen, fun hnot => absurd (hvalid.symm.trans hnot) (by decide), hsize, hexcl, hstatus⟩

@[simp] theorem reportResponse_residue (code : Word) (len : Nat) (s : State) :
    (reportResponse code len s).residue = s.residue := by
  unfold reportResponse
  split <;> rfl

/-- VALIDATE keeps the invariant: it fails as a TransportError, or writes response fields that agree and nothing of RESIDUE and
PHASE. -/
theorem blockInv_validate {s : State} (code : Word) (h : BlockInv s) : BlockInv (validate code s) := by
  obtain ⟨hbound, hphase, hresp⟩ := h
  obtain ⟨-, heq⟩ | ⟨k, b, -, rfl, heq⟩ := validate_cases code s
  · rw [heq]
    exact blockInv_raiseTransport _ hresp
  · rw [heq]
    refine ⟨by simpa using hbound, by simpa using hphase, ?_⟩
    refine responseConsistent_reportResponse _ _ rfl (responseConsistent_recordResponse _ _ ?_)
    exact (List.length_take_le ..).trans (Nat.min_le_right ..)

theorem blockInv_sent {s : State} (row : CommandRow) (hacc : accepts s.phase) (h : BlockInv s) :
    BlockInv (s.sent row) := by
  have hresidue := residue_nil_of_accepts h hacc
  obtain ⟨-, -, hresp⟩ := h
  exact blockInv_of_residue_nil hresidue hresp

theorem responseConsistent_throughputCheck {s : State} (now : Nat) (h : ResponseConsistent s) :
    ResponseConsistent (throughputCheck now s) := by
  obtain hlt | hle := Nat.lt_or_ge now (s.windowStart + s.params.reportInterval)
  · rwa [throughputCheck_of_lt hlt]
  · rw [throughputCheck_of_le hle]
    exact h

/-- An iteration holds what completes no triplet, and stays in STREAMING. -/
theorem blockInv_absorbChunk {s : State} (now : Nat) (chunk : List Byte) (hp : s.phase = .streaming)
    (hresp : ResponseConsistent s) : BlockInv (throughputCheck now (absorbChunk chunk s)) := by
  refine ⟨?_, fun hne => absurd (by simpa using hp) hne, responseConsistent_throughputCheck now ?_⟩
  · rw [throughputCheck_residue, absorbChunk_eq]
    exact Nat.le_of_lt_succ (restOf_length_lt _)
  · rw [absorbChunk_eq]
    exact hresp

/-- Every operation keeps the invariant of the block. -/
theorem exec_keeps_blockInv {s t : State} {i : Instr} (hinv : BlockInv s) (h : exec i s = .next t) : BlockInv t := by
  have ⟨hbound, hphase, hresp⟩ := hinv
  cases effect_of_exec h with
  | rejected | unpacked | packed | cancelIgnored => exact hinv
  | writeFailed | readFailed => exact blockInv_raiseTransport _ hresp
  | commanded hrow hacc => exact blockInv_validate _ (blockInv_sent _ hacc hinv)
  | entered => exact blockInv_of_residue_nil rfl hresp
  | validated => exact blockInv_validate _ hinv
  | absorbed hp => exact blockInv_absorbChunk _ _ hp hresp
  | cancelled =>
    rw [cancelResidue_eq]
    exact blockInv_of_residue_nil rfl hresp
  | cleared => exact blockInv_of_residue_nil rfl (by simp [ResponseConsistent])

/-- What every operation keeps, and neither the agenda nor the count of free times bears on, every step keeps. -/
theorem step_keeps {Inv : State → Prop} (hagenda : ∀ s rest, Inv s → Inv { s with agenda := rest })
    (hcount : ∀ s n, Inv s → Inv { s with nowCount := n })
    (hexec : ∀ s t i, Inv s → exec i s = .next t → Inv t) {s t : State} (hinv : Inv s) (h : step s = .next t) : Inv t := by
  obtain ⟨i, rest, -, hi⟩ | ⟨-, -, hi⟩ | ⟨-, -, rfl⟩ := step_cases h
  · exact hexec _ t i (hagenda s rest hinv) hi
  · exact hexec _ t _ (hcount s _ hinv) hi
  · exact hinv

/-- Settles O48: BlockInv reads neither the agenda nor the count of free times. -/
theorem stepKeepsTheInvariant : Obligations.StepKeepsTheInvariant := fun _ _ =>
  step_keeps (fun _ _ hinv => hinv) (fun _ _ hinv => hinv) fun _ _ _ => exec_keeps_blockInv

/-! ### The channels through the shared operations -/

@[simp] theorem sent_tx (row : CommandRow) (s : State) : (s.sent row).tx = s.tx ++ frame row.code row.args := rfl

@[simp] theorem sent_out (row : CommandRow) (s : State) : (s.sent row).out = s.out := rfl

@[simp] theorem sent_raw (row : CommandRow) (s : State) : (s.sent row).raw = s.raw := rfl

@[simp] theorem reportDiscard_tx (s : State) : (reportDiscard s).tx = s.tx := by rw [reportDiscard_eq]

@[simp] theorem reportDiscard_out (s : State) : (reportDiscard s).out = s.out := by rw [reportDiscard_eq]

@[simp] theorem reportDiscard_raw (s : State) : (reportDiscard s).raw = s.raw := by rw [reportDiscard_eq]

@[simp] theorem reportDiscard_rx (s : State) : (reportDiscard s).rx = s.rx := by rw [reportDiscard_eq]

@[simp] theorem cancelResidue_tx (s : State) : (cancelResidue s).tx = s.tx := by rw [cancelResidue_eq]

@[simp] theorem cancelResidue_out (s : State) : (cancelResidue s).out = s.out := by rw [cancelResidue_eq]

@[simp] theorem cancelResidue_raw (s : State) : (cancelResidue s).raw = s.raw := by rw [cancelResidue_eq]

@[simp] theorem cancelResidue_rx (s : State) : (cancelResidue s).rx = s.rx := by rw [cancelResidue_eq]

@[simp] theorem raiseTransport_tx (dir : Direction) (s : State) : (raiseTransport dir s).tx = s.tx := by
  rw [raiseTransport_eq]

@[simp] theorem raiseTransport_out (dir : Direction) (s : State) : (raiseTransport dir s).out = s.out := by
  rw [raiseTransport_eq]

@[simp] theorem raiseTransport_raw (dir : Direction) (s : State) : (raiseTransport dir s).raw = s.raw := by
  rw [raiseTransport_eq]

@[simp] theorem raiseTransport_rx (dir : Direction) (s : State) : (raiseTransport dir s).rx = s.rx := by
  rw [raiseTransport_eq]

@[simp] theorem reportResponse_tx (code : Word) (len : Nat) (s : State) : (reportResponse code len s).tx = s.tx := by
  unfold reportResponse; split <;> rfl

@[simp] theorem reportResponse_out (code : Word) (len : Nat) (s : State) : (reportResponse code len s).out = s.out := by
  unfold reportResponse; split <;> rfl

@[simp] theorem reportResponse_raw (code : Word) (len : Nat) (s : State) : (reportResponse code len s).raw = s.raw := by
  unfold reportResponse; split <;> rfl

@[simp] theorem reportResponse_rx (code : Word) (len : Nat) (s : State) : (reportResponse code len s).rx = s.rx := by
  unfold reportResponse; split <;> rfl

@[simp] theorem validate_tx (code : Word) (s : State) : (validate code s).tx = s.tx := by
  obtain ⟨-, heq⟩ | ⟨k, b, -, -, heq⟩ := validate_cases code s <;> simp [heq]

@[simp] theorem validate_out (code : Word) (s : State) : (validate code s).out = s.out := by
  obtain ⟨-, heq⟩ | ⟨k, b, -, -, heq⟩ := validate_cases code s <;> simp [heq]

@[simp] theorem validate_raw (code : Word) (s : State) : (validate code s).raw = s.raw := by
  obtain ⟨-, heq⟩ | ⟨k, b, -, -, heq⟩ := validate_cases code s <;> simp [heq]

/-- VALIDATE asks RX for 8 bytes (R118). -/
theorem validate_rx (code : Word) (s : State) : ∃ k ≤ 8, (validate code s).rx = s.arrived.drop k := by
  obtain ⟨-, heq⟩ | ⟨k, b, -, -, heq⟩ := validate_cases code s
  · exact ⟨0, by decide, by simp [heq]⟩
  · exact ⟨min k 8, Nat.min_le_right .., by simp [heq]⟩

@[simp] theorem absorbChunk_tx (chunk : List Byte) (s : State) : (absorbChunk chunk s).tx = s.tx := by
  rw [absorbChunk_eq]

@[simp] theorem throughputCheck_tx (now : Nat) (s : State) : (throughputCheck now s).tx = s.tx := by
  unfold throughputCheck; split <;> rfl

/-! ### TX -/

theorem commandRow_sends {p : Params} {i : Instr} {row : CommandRow} (h : commandRow p i = some row) :
    sentCode p i = some row.code ∧ row.code ∈ p.codes ∧ i.args = row.args ∧ row.args.length ≤ 4 := by
  cases i with
  | cfgGpioPin | cfgGpioPinValue | cfgDma | cfgAdc | triggerAdc =>
    cases h
    simp [sentCode, Params.codes, Instr.args]
  | readAdc | validate | unpack | pack16 | streamChunk | cancel | reset => cases h

/-- Settles O24: a command and READ_ADC write one frame, and nothing else writes to TX. -/
theorem onlyTheClosedSetReachesTx : Obligations.OnlyTheClosedSetReachesTx := by
  intro s t i h
  cases effect_of_exec h with
  | commanded hrow =>
    obtain ⟨hcode, hmem, hargs, hlen⟩ := commandRow_sends hrow
    exact .inr ⟨_, hcode, hmem, hargs ▸ hlen, by rw [validate_tx, sent_tx, hargs]⟩
  | entered => exact .inr ⟨_, rfl, by simp [Params.codes], by simp [Instr.args], rfl⟩
  | rejected | unpacked | packed | cancelIgnored => exact .inl rfl
  | writeFailed | readFailed | validated | absorbed | cancelled | cleared => exact .inl (by simp)

/-! ### OUT -/

/-- Whole pairs of words whose top four bits are 0 (R87, R91 (d)): OutWellFormed of the bytes alone. -/
def WholePairs (b : List Byte) : Prop :=
  b.length % 4 = 0 ∧ ∀ (k : Nat) (x : Byte), b[2 * k + 1]? = some x → x.toNat < 16

theorem outWellFormed_iff (s : State) : OutWellFormed s ↔ WholePairs s.out :=
  Iff.rfl

theorem wholePairs_append {a b : List Byte} (ha : WholePairs a) (hb : WholePairs b) : WholePairs (a ++ b) := by
  obtain ⟨halen, hatop⟩ := ha
  obtain ⟨hblen, hbtop⟩ := hb
  refine ⟨by rw [List.length_append]; omega, fun k x hx => ?_⟩
  obtain hlt | hge := Nat.lt_or_ge (2 * k + 1) a.length
  · rw [List.getElem?_append_left hlt] at hx
    exact hatop k x hx
  · have hodd : 2 * k + 1 - a.length = 2 * (k - a.length / 2) + 1 := by omega
    rw [List.getElem?_append_right hge, hodd] at hx
    exact hbtop _ x hx

theorem toNat_zero_append_lt (x : BitVec 4) : ((0 : BitVec 4) ++ x).toNat < 16 :=
  (highNibble_eq_zero_iff _).1 BitVec.extractLsb'_append_eq_left

theorem wholePairs_pack16 (i q : Sample) : WholePairs (pack16 i q) := by
  rw [pack16ZeroExtendsAndInterleaves]
  refine ⟨by simp, fun k x hx => ?_⟩
  match k with
  | 0 => cases hx; exact toNat_zero_append_lt _
  | 1 => cases hx; exact toNat_zero_append_lt _
  | k + 2 => cases hx

theorem wholePairs_sc16Of (buf : List Byte) : WholePairs (sc16Of buf) := by
  induction buf using triplet_induction with
  | short buf h =>
    rw [sc16Of_of_length_lt h]
    exact ⟨rfl, fun k x hx => by cases hx⟩
  | triplet b0 b1 b2 rest ih =>
    rw [sc16Of_triplet]
    exact wholePairs_append (wholePairs_pack16 _ _) ih

/-- What an operation adds to OUT is the decode of some buffer, empty but for an iteration. -/
theorem exec_out {s t : State} {i : Instr} (h : exec i s = .next t) : ∃ buf, t.out = s.out ++ sc16Of buf := by
  cases effect_of_exec h with
  | absorbed => exact ⟨_, by rw [throughputCheck_out, absorbChunk_eq]; rfl⟩
  | rejected | writeFailed | commanded | entered | validated | unpacked | packed | readFailed | cancelled |
    cancelIgnored | cleared => exact ⟨[], by simp [sc16Of, pairsOf]⟩

/-- Settles O49: a decode is whole pairs, one to a triplet. -/
theorem stepKeepsOutWellFormed : Obligations.StepKeepsOutWellFormed := fun _ _ =>
  step_keeps (fun _ _ hout => hout) (fun _ _ hout => hout) fun s t i hout h => by
    obtain ⟨buf, hbuf⟩ := exec_out h
    rw [outWellFormed_iff, hbuf]
    exact wholePairs_append hout (wholePairs_sc16Of buf)

end Sys2Proof.Machine

/-! PROOFS. The machine's reports and channels: what one operation appends to DIAG (60_exceptions.md R199), the cause held in
FAULT (R190), what leaves STREAMING (41_stream_decoder.md R149) and the channels of a step (20_memory.md R50, R55, R56). -/

namespace Sys2Proof.Machine

/-! ### DIAG through the shared operations -/

/-- The event of a residue dropped, if one is held (R195, R174, R220). -/
def discardEvents (residue : List Byte) : List DiagEvent :=
  if residue = [] then [] else [.framingDiscard residue.length]

/-- Within R31's bound a residue dropped is of 1 or 2 bytes. -/
theorem discardEvents_cases {residue : List Byte} (h : residue.length ≤ 2) :
    discardEvents residue = [] ∨ ∃ k, (k = 1 ∨ k = 2) ∧ discardEvents residue = [.framingDiscard k] := by
  match residue, h with
  | [], _ => exact .inl rfl
  | [_], _ => exact .inr ⟨1, .inl rfl, rfl⟩
  | [_, _], _ => exact .inr ⟨2, .inr rfl, rfl⟩

theorem raiseTransport_diag (dir : Direction) (s : State) :
    (raiseTransport dir s).diag = s.diag ++ (discardEvents s.residue ++ [.transportError dir]) := by
  rw [raiseTransport_eq, ← List.append_assoc]
  rfl

theorem raiseTransport_diag_prefix (dir : Direction) (s : State) : s.diag <+: (raiseTransport dir s).diag :=
  ⟨_, (raiseTransport_diag dir s).symm⟩

theorem reportDiscard_diag (s : State) : (reportDiscard s).diag = s.diag ++ discardEvents s.residue := by
  rw [reportDiscard_eq]
  rfl

theorem cancelResidue_diag (s : State) : (cancelResidue s).diag = s.diag ++ discardEvents s.residue := by
  rw [cancelResidue_eq]
  rfl

theorem throughputCheck_diag (now : Nat) (s : State) :
    (throughputCheck now s).diag = s.diag ∨ ∃ rate, (throughputCheck now s).diag = s.diag ++ [.report rate] := by
  obtain hlt | hle := Nat.lt_or_ge now (s.windowStart + s.params.reportInterval)
  · exact .inl (by rw [throughputCheck_of_lt hlt])
  · exact .inr ⟨_, by rw [throughputCheck_of_le hle]⟩

theorem reportResponse_diag (code : Word) (len : Nat) (s : State) :
    ∃ events, (reportResponse code len s).diag = s.diag ++ events ∧ events.length ≤ 1 := by
  unfold reportResponse
  split
  · exact ⟨[_], by rw [raiseProtocol_eq], Nat.le_refl 1⟩
  · exact ⟨[], (List.append_nil _).symm, Nat.zero_le 1⟩

/-- VALIDATE appends one event at most, beside that of a residue its TransportError drops. -/
theorem validate_diag (code : Word) (s : State) :
    ∃ events, (validate code s).diag = s.diag ++ events ∧ (s.residue = [] → events.length ≤ 1) := by
  obtain ⟨-, heq⟩ | ⟨k, b, -, -, heq⟩ := validate_cases code s
  · refine ⟨_, by rw [heq, raiseTransport_diag]; rfl, fun hresidue => ?_⟩
    rw [afterRx_residue, hresidue]
    exact Nat.le_refl 1
  · obtain ⟨events, hevents, hlen⟩ := reportResponse_diag code b.length (recordResponse code b (s.afterRx (min k 8)))
    exact ⟨events, by rw [heq, hevents]; rfl, fun _ => hlen⟩

/-! ### What one operation reports -/

/-- The events R199 allows an operation. -/
def AllowedReports (i : Instr) (events : List DiagEvent) : Prop :=
  (∀ op : Operation, rejectedName i = some op → events.length ≤ 1) ∧
  (∀ now : Nat, i = .streamChunk now →
    events = [] ∨ (∃ rate : Nat, events = [.report rate]) ∨ events = [.transportError .read] ∨
    ∃ k : Nat, (k = 1 ∨ k = 2) ∧ events = [.framingDiscard k, .transportError .read]) ∧
  (i = .cancel ∨ i = .reset → events = [] ∨ ∃ k : Nat, (k = 1 ∨ k = 2) ∧ events = [.framingDiscard k])

theorem allowedReports_nil (i : Instr) : AllowedReports i [] :=
  ⟨fun _ _ => Nat.zero_le 1, fun _ _ => .inl rfl, fun _ => .inl rfl⟩

/-- A control operation is neither an iteration nor CANCEL nor RESET, so only the number is bounded. -/
theorem allowedReports_of_control {i : Instr} {op : Operation} {events : List DiagEvent} (hname : rejectedName i = some op)
    (h : events.length ≤ 1) : AllowedReports i events := by
  refine ⟨fun _ _ => h, ?_, ?_⟩
  · rintro now rfl
    cases hname
  · rintro (rfl | rfl) <;> cases hname

theorem allowedReports_validate (events : List DiagEvent) : AllowedReports .validate events :=
  ⟨nofun, nofun, nofun⟩

theorem allowedReports_streamChunk {now : Nat} {events : List DiagEvent}
    (h : events = [] ∨ (∃ rate : Nat, events = [.report rate]) ∨ events = [.transportError .read] ∨
      ∃ k : Nat, (k = 1 ∨ k = 2) ∧ events = [.framingDiscard k, .transportError .read]) :
    AllowedReports (.streamChunk now) events :=
  ⟨nofun, fun _ _ => h, nofun⟩

theorem allowedReports_of_end {i : Instr} {residue : List Byte} (hi : i = .cancel ∨ i = .reset)
    (hbound : residue.length ≤ 2) : AllowedReports i (discardEvents residue) := by
  refine ⟨?_, ?_, fun _ => discardEvents_cases hbound⟩
  · rintro op hname
    rcases hi with rfl | rfl <;> cases hname
  · rintro now rfl
    rcases hi with hi | hi <;> cases hi

/-- Settles O45: by the ways an operation can end; a command is accepted only where no residue is held. -/
theorem reportsOfOneOperation : Obligations.ReportsOfOneOperation := by
  intro s t i hinv h
  change ∃ events, t.diag = s.diag ++ events ∧ AllowedReports i events
  have ⟨hbound, _, _⟩ := hinv
  cases effect_of_exec h with
  | rejected hname => exact ⟨_, rfl, allowedReports_of_control hname (Nat.le_refl 1)⟩
  | writeFailed hname hacc =>
    refine ⟨_, raiseTransport_diag _ _, allowedReports_of_control hname ?_⟩
    rw [afterTx_residue, residue_nil_of_accepts hinv hacc]
    exact Nat.le_refl 1
  | commanded hrow hacc =>
    obtain ⟨events, hevents, hlen⟩ := validate_diag _ (s.sent _)
    have hresidue := residue_nil_of_accepts hinv hacc
    exact ⟨events, hevents, allowedReports_of_control (rejectedName_of_commandRow hrow) (hlen hresidue)⟩
  | validated =>
    obtain ⟨events, hevents, -⟩ := validate_diag s.lastCode s
    exact ⟨events, hevents, allowedReports_validate events⟩
  | readFailed =>
    refine ⟨_, raiseTransport_diag _ _, allowedReports_streamChunk ?_⟩
    rw [afterRx_residue]
    obtain hnil | ⟨k, hk, hone⟩ := discardEvents_cases hbound
    · exact .inr (.inr (.inl (by rw [hnil]; rfl)))
    · exact .inr (.inr (.inr ⟨k, hk, by rw [hone]; rfl⟩))
  | absorbed =>
    obtain hnone | ⟨rate, hone⟩ := throughputCheck_diag _ _
    · exact ⟨[], by rw [hnone, absorbChunk_diag, List.append_nil]; rfl, allowedReports_nil _⟩
    · exact ⟨_, by rw [hone, absorbChunk_diag]; rfl, allowedReports_streamChunk (.inr (.inl ⟨rate, rfl⟩))⟩
  | cancelled => exact ⟨_, cancelResidue_diag s, allowedReports_of_end (.inl rfl) hbound⟩
  | cleared => exact ⟨_, reportDiscard_diag s, allowedReports_of_end (.inr rfl) hbound⟩
  | entered | unpacked | packed | cancelIgnored => exact ⟨[], by simp, allowedReports_nil _⟩

/-! ### FAULT and STREAMING -/

theorem target_ne_fault {p : Params} {i : Instr} {row : CommandRow} (h : commandRow p i = some row) :
    row.target ≠ .fault := by
  cases i with
  | cfgGpioPin | cfgGpioPinValue | cfgDma | cfgAdc | triggerAdc => cases h; simp
  | readAdc | validate | unpack | pack16 | streamChunk | cancel | reset => cases h

theorem faultCauseKnown_of_ne_fault {s : State} (h : s.phase ≠ .fault) : FaultCauseKnown s :=
  fun hfault => absurd hfault h

theorem faultCauseKnown_raiseTransport (dir : Direction) (s : State) : FaultCauseKnown (raiseTransport dir s) :=
  fun _ => .inl rfl

/-- VALIDATE in another phase than FAULT leads there by a TransportError alone. -/
theorem faultCauseKnown_validate {s : State} (code : Word) (hp : s.phase ≠ .fault) :
    FaultCauseKnown (validate code s) := by
  obtain ⟨-, heq⟩ | ⟨k, b, -, -, heq⟩ := validate_cases code s
  · rw [heq]
    exact faultCauseKnown_raiseTransport _ _
  · rw [heq]
    exact faultCauseKnown_of_ne_fault (by simpa using hp)

/-- Settles O46: a command is rejected in FAULT with its own cause, and FAULT is entered by a TransportError alone. -/
theorem faultCauseStaysKnown : Obligations.FaultCauseStaysKnown := by
  intro s t i hknown hi h
  cases effect_of_exec h with
  | rejected hname hcause =>
    intro hfault
    rw [reject_phase] at hfault
    rw [guardCause_of_fault hfault] at hcause
    cases hcause
    exact .inr rfl
  | writeFailed | readFailed => exact faultCauseKnown_raiseTransport _ _
  | commanded hrow => exact faultCauseKnown_validate _ (target_ne_fault hrow)
  | entered => exact faultCauseKnown_of_ne_fault (by simp)
  | validated => exact absurd rfl hi
  | unpacked | packed | cancelIgnored => exact hknown
  | absorbed hp => exact faultCauseKnown_of_ne_fault (by simp [hp])
  | cancelled | cleared => exact faultCauseKnown_of_ne_fault (by simp)

/-- Settles O44: in STREAMING no command is accepted, an iteration and VALIDATE leave by a failed read, and CANCEL and RESET
go to IDLE. -/
theorem whatLeavesStreaming : Obligations.WhatLeavesStreaming := by
  intro s hp
  have hacc : ¬ accepts s.phase := by simp [accepts, hp]
  refine ⟨fun now => ⟨_, exec_streamChunk_of_streaming now hp⟩, fun i t h hne => ?_⟩
  cases effect_of_exec h with
  | rejected | unpacked | packed | cancelIgnored => exact absurd hp hne
  | writeFailed _ hacc' | commanded _ hacc' | entered hacc' => exact absurd hacc' hacc
  | validated =>
    rw [validate_phase, hp] at hne
    have hrx : s.nextRx = .fail := by simpa using hne
    exact .inr (.inr ⟨by simp [validate_phase, hrx], hrx, .inl rfl⟩)
  | readFailed _ hrx => exact .inr (.inr ⟨rfl, hrx, .inr ⟨_, rfl⟩⟩)
  | absorbed => exact absurd (by simpa using hp) hne
  | cancelled => exact .inl ⟨rfl, rfl⟩
  | cleared => exact .inr (.inl ⟨rfl, rfl⟩)

/-! ### The channels of a step -/

/-- Every operation only appends to RAW: a chunk where the tap is on, or nothing. -/
theorem exec_raw {s t : State} {i : Instr} (h : exec i s = .next t) : s.raw <+: t.raw := by
  cases effect_of_exec h with
  | absorbed =>
    rw [throughputCheck_raw, absorbChunk_eq]
    dsimp only [afterRx_raw]
    split
    · exact List.prefix_append ..
    · exact List.prefix_refl _
  | rejected | writeFailed | commanded | entered | validated | unpacked | packed | readFailed | cancelled |
    cancelIgnored | cleared => simp

/-- Every operation only appends to DIAG. -/
theorem exec_diag {s t : State} {i : Instr} (h : exec i s = .next t) : s.diag <+: t.diag := by
  cases effect_of_exec h with
  | writeFailed => exact raiseTransport_diag_prefix .write (s.afterTx [])
  | readFailed => exact raiseTransport_diag_prefix .read (s.afterRx 0)
  | commanded =>
    obtain ⟨events, hevents, -⟩ := validate_diag _ (s.sent _)
    exact ⟨events, hevents.symm⟩
  | validated =>
    obtain ⟨events, hevents, -⟩ := validate_diag s.lastCode s
    exact ⟨events, hevents.symm⟩
  | absorbed =>
    obtain hnone | ⟨rate, hone⟩ := throughputCheck_diag _ _
    · rw [hnone, absorbChunk_diag]
      exact List.prefix_refl _
    · rw [hone, absorbChunk_diag]
      exact List.prefix_append ..
  | cancelled => exact ⟨_, (cancelResidue_diag s).symm⟩
  | cleared => exact ⟨_, (reportDiscard_diag s).symm⟩
  | rejected | entered | unpacked | packed | cancelIgnored => simp

/-- An operation takes nothing from RX, or bytes at its head: what one read asks for at most. -/
theorem exec_rx {s t : State} {i : Instr} (h : exec i s = .next t) :
    t.rx = s.rx ∨ ∃ n : Nat, n ≤ max 8 s.params.chunkSize ∧ t.rx = s.arrived.drop n := by
  cases effect_of_exec h with
  | commanded hrow =>
    obtain ⟨k, hk, hrx⟩ := validate_rx _ (s.sent _)
    exact .inr ⟨k, hk.trans (Nat.le_max_left ..), hrx⟩
  | validated =>
    obtain ⟨k, hk, hrx⟩ := validate_rx s.lastCode s
    exact .inr ⟨k, hk.trans (Nat.le_max_left ..), hrx⟩
  | readFailed => exact .inr ⟨0, Nat.zero_le _, by simp⟩
  | absorbed =>
    exact .inr ⟨_, (Nat.min_le_right ..).trans (Nat.le_max_right ..), by rw [throughputCheck_rx, absorbChunk_rx]; rfl⟩
  | rejected | writeFailed | entered | unpacked | packed | cancelled | cancelIgnored | cleared => exact .inl (by simp)

theorem exec_tx {s t : State} {i : Instr} (h : exec i s = .next t) : s.tx <+: t.tx := by
  obtain heq | ⟨code, -, -, -, heq⟩ := onlyTheClosedSetReachesTx s t i h
  · rw [heq]
  · exact ⟨_, heq.symm⟩

/-- O51's statement of one operation. -/
theorem exec_channels {s t : State} {i : Instr} (h : exec i s = .next t) :
    s.tx <+: t.tx ∧ s.out <+: t.out ∧ s.raw <+: t.raw ∧ s.diag <+: t.diag ∧
    (t.rx = s.rx ∨ ∃ n : Nat, n ≤ max 8 s.params.chunkSize ∧ t.rx = s.arrived.drop n) := by
  obtain ⟨buf, hout⟩ := exec_out h
  exact ⟨exec_tx h, ⟨_, hout.symm⟩, exec_raw h, exec_diag h, exec_rx h⟩

/-- Settles O51: a step is an operation in a state whose channels are those of `s`, or leaves `s` as it is. -/
theorem channelsAreAppendOnly : Obligations.ChannelsAreAppendOnly := by
  intro s t h
  obtain ⟨i, rest, -, hi⟩ | ⟨-, -, hi⟩ | ⟨-, -, rfl⟩ := step_cases h
  · exact (exec_channels hi :)
  · exact (exec_channels hi :)
  · exact ⟨List.prefix_refl _, List.prefix_refl _, List.prefix_refl _, List.prefix_refl _, .inl rfl⟩

end Sys2Proof.Machine

/-! PROOFS. What a reader sees (10_state.md R37, R22, 60_exceptions.md R190, R198) and the state at power-on and after RESET
(70_reset_and_hazards.md R220, R222). -/

namespace Sys2Proof.Machine

/-! ### The observation registers -/

/-- Register 7: the residue bytes, the first lowest, and zeros above (R37). -/
theorem residueBytes_fields (s : State) :
    (residueBytes s).extractLsb' 0 8 = (if 1 ≤ s.residue.length then s.residue.getD 0 0 else 0) ∧
    (residueBytes s).extractLsb' 8 8 = (if s.residue.length = 2 then s.residue.getD 1 0 else 0) ∧
    (residueBytes s).extractLsb' 16 16 = 0 := by
  simp (disch := decide) only [residueBytes, BitVec.extractLsb'_append_eq_of_le,
    BitVec.extractLsb'_append_eq_of_add_le]
  exact ⟨BitVec.extractLsb'_eq_self, BitVec.extractLsb'_eq_self, BitVec.extractLsb'_eq_self⟩

theorem observe_of_gt_seven (s : State) {n : Nat} (h : 7 < n) : observe s n = 0 := by
  obtain ⟨m, rfl⟩ := Nat.exists_eq_add_of_le' h
  rfl

/-- Settles O38: registers 1 to 6 are their fields, and register 7 is `residueBytes`. -/
theorem observationRegisters : Obligations.ObservationRegisters := by
  intro s
  obtain ⟨hlow, hhigh, hzero⟩ := residueBytes_fields s
  exact ⟨rfl, rfl, rfl, rfl, rfl, rfl, hlow, hhigh, hzero, fun _ => observe_of_gt_seven s⟩

/-- A reader sees no difference between RESET and power-on (R222): the registers show nothing that RESET leaves. -/
theorem observe_clearBlock (s : State) (n : Nat) : observe (clearBlock s) n = observe State.reset n := by
  match n with
  | 0 | 1 | 2 | 3 | 4 | 5 | 6 | 7 | _ + 8 => rfl

theorem observe_reset (n : Nat) : observe State.reset n = 0 := by
  match n with
  | 0 | 1 | 2 | 3 | 4 | 5 | 6 | 7 => decide
  | n + 8 => rfl

/-- Settles O37: the registers after RESET are those at power-on, and these are 0. -/
theorem everyRegisterReadsZeroAfterReset : Obligations.EveryRegisterReadsZeroAfterReset :=
  ⟨fun s => ⟨_, exec_reset s, rfl, fun n => (observe_clearBlock _ n).trans (observe_reset n)⟩, rfl, observe_reset⟩

/-- Settles O47: at power-on no residue is held, OUT is empty, and PHASE is IDLE. -/
theorem resetMeetsTheInvariant : Obligations.ResetMeetsTheInvariant :=
  ⟨blockInv_of_residue_nil rfl (by simp [ResponseConsistent, State.reset]), wholePairs_sc16Of [],
    faultCauseKnown_of_ne_fault (by simp [State.reset])⟩

/-! ### Codes and texts -/

/-- The codes of R190 lie in 0 to 8 and leave out 4. -/
theorem causeCode_range (c : Cause) : causeCode c ≠ 4 ∧ (causeCode c).toNat ≤ 8 := by
  cases c <;> decide

/-- Settles O40: the tables of R22 and R190, and `causeCode_range`. -/
theorem enumerationCodes : Obligations.EnumerationCodes :=
  ⟨rfl, rfl, rfl, rfl, rfl, rfl, rfl, rfl, rfl, rfl, rfl, rfl, rfl, causeCode_range⟩

/-- Settles O41: the numeral of 2048 evaluated. -/
theorem reportTextOfTwoThousandFortyEight : Obligations.ReportTextOfTwoThousandFortyEight := by
  unfold Obligations.ReportTextOfTwoThousandFortyEight
  decide

end Sys2Proof.Machine

/-! PROOFS. The step: which operation it takes (20_memory.md R69, 42_session_control.md R177), when it stops (R223 (b)) and the
rows of the opcode table placed for it (30_encoding.md R92). -/

namespace Sys2Proof.Machine

theorem step_of_take {s s' : State} {i : Instr} (hp : s.params.wf = true) (h : nextTurn s = .take i s') :
    step s = exec i s' := by
  rw [step, if_pos hp, h]

/-- The agenda is taken from its head, whatever PHASE is. -/
theorem nextTurn_of_cons {s : State} {i : Instr} {rest : List Instr} (h : s.agenda = i :: rest) :
    nextTurn s = .take i { s with agenda := rest } := by
  rw [nextTurn, h]

/-- Settles O52: the head of the agenda is the next turn. -/
theorem stepTakesTheNextOperation : Obligations.StepTakesTheNextOperation := fun _ _ _ hp h =>
  step_of_take hp (nextTurn_of_cons h)

/-- Settles O53: with an empty agenda PHASE decides between the engine's own iteration and waiting. -/
theorem stepWithoutARequest : Obligations.StepWithoutARequest := by
  refine fun s hp hagenda => ⟨fun hphase => step_of_take hp ?_, fun hphase => ?_⟩
  · rw [nextTurn, hagenda, if_pos hphase]
  · have hwait : nextTurn s = .wait := by rw [nextTurn, hagenda, if_neg hphase]
    rw [step, if_pos hp, hwait]

/-- Settles O54: `Params.wf` is R8's bounds and R9. -/
theorem stepNeedsAdmittedParameters : Obligations.StepNeedsAdmittedParameters := by
  intro s h
  rw [← params_wf_iff] at h
  rw [step, if_neg h]

/-! ### Rows of the opcode table -/

theorem step_placeOp {s : State} (i : Instr) (hp : s.params.wf = true) : step (placeOp i s) = exec i s :=
  step_of_take hp rfl

/-- A RESP row is VALIDATE, whose 8 bytes are its input. -/
theorem decodeTable_of_resp {p : Params} {nbits w : Nat} {i : Instr} {b : List Byte}
    (henc : encodedOfTable p nbits w = .resp b) (h : decodeTable p nbits w = some i) : i = .validate := by
  simp only [decodeTable, henc, decode] at h
  split_ifs at h
  all_goals
    cases h
    rfl

/-- Settles O55: a placed row is at the head of the agenda, and a RESP row has its bytes placed with it. -/
theorem placedTableRowRuns : Obligations.PlacedTableRowRuns := by
  intro s nbits w i hp hdecode
  refine ⟨fun b henc => ⟨decodeTable_of_resp henc hdecode, ?_⟩, fun hne => ?_⟩
  · rw [State.withFetchWord, placeTable]
    simp only [hdecode, henc]
    exact step_placeOp i hp
  · have hplace : s.withFetchWord nbits w = placeOp i s := by
      simp only [State.withFetchWord, placeTable, hdecode]
      split
      case h_1 b henc => exact absurd henc (hne b)
      all_goals rfl
    rw [hplace, step_placeOp i hp]

end Sys2Proof.Machine
